-- ==== Sys2Proof/Word.lean ====
section
/-! DEFINITION. The block's words: the byte, the sequence of bytes, the 32-bit millisecond value
(spec 00_scope R9, R10, R11). -/

namespace Sys2Proof

/-- An unsigned 8-bit value (R10). -/
abbrev Byte := BitVec 8

/-- A byte sequence, index 0 first; a text string is one too (R11). -/
abbrev Bytes := List Byte

/-- A value of the millisecond clock or of `TIMEOUT`: `CLK_W` = `TIMEOUT_W` = 32 bits (R9). -/
abbrev Millis := BitVec 32

/-- An operation select code, the width of `OPSEL` (10_state R21). -/
abbrev OpCode := BitVec 4

end Sys2Proof
end

