-- ==== Sys2Proof/Config.lean ====
section
/-! DEFINITION. What is fixed in the block: the nine timing constants of spec 00_scope R7, with the
source's literals as their values (R32, U9). The wire constants of R63 stand in
Machine/Operands.lean, where the frames are built. Capacities are unbounded (R9, log entry 12), and
no value of the block is left free (log entry 28). -/

namespace Sys2Proof.Config

/-- `EX_SETTLE_MS`: from the write of a frame that expects an ack to the first sample (R7). -/
def exSettleMs : Nat := 100

/-- `EX_GRAN_MS`: the sleep between two ack samples (R7). -/
def exGranMs : Nat := 5

/-- `WR_GRAN_MS`: the sleep between two samples of WaitResponse (R7). -/
def wrGranMs : Nat := 20

/-- `GI_SETTLE_MS`: GetInfo's pause between the write and its WaitResponse (R7). -/
def giSettleMs : Nat := 10

/-- `DEFAULT_TIMEOUT_MS`: the default of Execute and of WaitResponse (R7, R82). -/
def defaultTimeoutMs : Millis := 1000#32

/-- `TMO_STOP_DECODE_MS` (R7). -/
def tmoStopDecodeMs : Millis := 150#32

/-- `TMO_TRIGGER_MODE_MS` (R7). -/
def tmoTriggerModeMs : Millis := 200#32

/-- `TMO_FILL_LIGHT_MS` (R7). -/
def tmoFillLightMs : Millis := 100#32

/-- `BRIGHTNESS_MAX`: the upper clamp of the fill-light brightness (R7, R102). -/
def brightnessMax : Nat := 100

end Sys2Proof.Config
end

