-- ==== Sys2Proof/Syntax.lean ====
section
/-! DEFINITION. The instructions: one constructor per row of spec/opcode_table.json, in the table's
order, and the reasons for which bytes are no instruction.

The table has two kinds of rows. The rows of format HOST are the sixteen codes of `OPSEL`
(30_encoding R67, R68); their operands stand in registers, so they carry none. The rows of formats
K3, K3P, K4P, A5 and ENV are the wire formats (R59, R60, R61, R63); they carry the bytes the format
leaves open. -/

namespace Sys2Proof

inductive Instr where
  /-- `EXECUTE`, code 1 (R75). -/
  | execute
  /-- `WAIT_RESPONSE`, code 2 (R83). -/
  | waitResponse
  /-- `EXTRACT_PAYLOAD`, code 3 (R87). -/
  | extractPayload
  /-- `GET_INFO`, code 4 (R89). -/
  | getInfo
  /-- `POLL`, code 5 (R107). -/
  | poll
  /-- `RESULT_NAME`, code 6 (R94). -/
  | resultName
  /-- `SET_CTRL`, code 7 (R113). -/
  | setCtrl
  /-- `START_DECODE`, code 8 (R99). -/
  | startDecode
  /-- `STOP_DECODE`, code 9 (R100). -/
  | stopDecode
  /-- `SET_TRIGGER_MODE`, code A (R101). -/
  | setTriggerMode
  /-- `SET_FILL_LIGHT_BRIGHTNESS`, code B (R102). -/
  | setFillLightBrightness
  /-- `GET_FIRMWARE_VERSION`, code C (R104). -/
  | getFirmwareVersion
  /-- `GET_SOFTWARE_VERSION`, code D (R105). -/
  | getSoftwareVersion
  /-- the reserved code 0 (R68). -/
  | reserved0
  /-- the reserved code E (R68). -/
  | reservedE
  /-- the reserved code F (R68). -/
  | reservedF
  /-- the frame `32 75 01` of startDecode (R63, layout K3). -/
  | startDecodeFrame
  /-- the frame `32 75 02` of stopDecode (R63, layout K3). -/
  | stopDecodeFrame
  /-- the frame `21 61 41 m` of setTriggerMode (R63, layout K4P). -/
  | setTriggerModeFrame (m : Byte)
  /-- the frame `21 62 48 b` of setFillLightBrightness (R63, layout K4P). -/
  | setFillLightBrightnessFrame (b : Byte)
  /-- the frame `43 02 id` of getInfos (R63, layout K3P). -/
  | getInfosFrame (id : Byte)
  /-- the ack `33 75 02 00 00` (R63, layout A5). -/
  | stopDecodeAck
  /-- the ack `22 61 41 m 00` (R63, layout A5). -/
  | setTriggerModeAck (m : Byte)
  /-- the ack `22 62 48 b 00` (R63, layout A5). -/
  | setFillLightBrightnessAck (b : Byte)
  /-- a response envelope (R61): three header bytes, the two bytes of the payload length L, then
  the payload and whatever trails it. -/
  | responseEnvelope (h0 h1 h2 hi lo : Byte) (body : Bytes)
deriving DecidableEq, Repr

/-- Why a sequence of bytes is no instruction of the table. -/
inductive DecodeError where
  /-- no byte at all -/
  | empty
  /-- one byte above 0x0F: no value of the 4-bit `OPSEL` (10_state R21) -/
  | selectCodeTooWide
  /-- two to four bytes that are no frame of the command table (30_encoding R63) -/
  | unknownFrame
  /-- a setFillLightBrightness frame with a brightness above 100, which the operation never builds
  (R64, R102) -/
  | brightnessOutOfRange
  /-- five bytes or more that are no listed ack and too short for the payload length they declare
  (R61) -/
  | shortEnvelope
deriving DecidableEq, Repr

/-- What the decoder answers. -/
inductive Decoded where
  | instr (i : Instr)
  | rejected (e : DecodeError)
deriving DecidableEq, Repr

end Sys2Proof
end

