-- ==== Sys2Proof/WellFormed.lean ====
section
/-! DEFINITION. Well-formed instructions: the operand values for which a row's encoding stands for
that row (spec 30_encoding R61, R63, R64). -/

namespace Sys2Proof

/-- The brightness byte of a setFillLightBrightness frame is the clamped value, 0 to 100 (R64,
R102). -/
def brightnessInRange (b : Byte) : Bool :=
  decide (b.toNat ≤ Config.brightnessMax)

/-- An envelope holds at least the payload it declares; bytes after it are allowed (R61). -/
def bodyHoldsPayload (hi lo : Byte) (body : Bytes) : Bool :=
  decide (hi.toNat * 256 + lo.toNat ≤ body.length)

/-- The three listed acks that have the length bytes `00 00` are, byte for byte, also envelopes
with an empty payload; nothing in the bytes tells the two apart (R61, R71). Such bytes stand for
the ack row (log entry 7). -/
def readsAsAck (h0 h1 h2 hi lo : Byte) (body : Bytes) : Bool :=
  decide ([h0, h1, h2, hi, lo] ++ body ∈
    [[0x33#8, 0x75#8, 0x02#8, 0x00#8, 0x00#8],
     [0x22#8, 0x61#8, 0x41#8, 0x00#8, 0x00#8],
     [0x22#8, 0x62#8, 0x48#8, 0x00#8, 0x00#8]])

/-- Every check an instruction must pass; the rows without operands pass. -/
def wellFormed : Instr → Bool
  | .execute => true
  | .waitResponse => true
  | .extractPayload => true
  | .getInfo => true
  | .poll => true
  | .resultName => true
  | .setCtrl => true
  | .startDecode => true
  | .stopDecode => true
  | .setTriggerMode => true
  | .setFillLightBrightness => true
  | .getFirmwareVersion => true
  | .getSoftwareVersion => true
  | .reserved0 => true
  | .reservedE => true
  | .reservedF => true
  | .startDecodeFrame => true
  | .stopDecodeFrame => true
  | .setTriggerModeFrame _ => true
  | .setFillLightBrightnessFrame b => brightnessInRange b
  | .getInfosFrame _ => true
  | .stopDecodeAck => true
  | .setTriggerModeAck _ => true
  | .setFillLightBrightnessAck _ => true
  | .responseEnvelope h0 h1 h2 hi lo body =>
    bodyHoldsPayload hi lo body && !readsAsAck h0 h1 h2 hi lo body

end Sys2Proof
end

