-- ==== Sys2Proof/Decode.lean ====
section
/-! DEFINITION. The decoder (total on any bytes, rejecting by name), the encoder, and the reading of
a word numbered as spec/opcode_table.json numbers it.

An instruction is a sequence of bytes, byte 0 first. One byte is a write of `OPSEL` (the code in
bits 3:0, 30_encoding R67, R68); three or more bytes are a wire format, byte 0 the first on the wire
(R59, R60, R61, R63). No wire format has one byte, so the length tells the two apart. -/

namespace Sys2Proof

/-- The operation a select code names; every code names one (R67, R68). -/
def decodeOpsel (code : OpCode) : Instr :=
  match code.toNat with
  | 0x0 => .reserved0
  | 0x1 => .execute
  | 0x2 => .waitResponse
  | 0x3 => .extractPayload
  | 0x4 => .getInfo
  | 0x5 => .poll
  | 0x6 => .resultName
  | 0x7 => .setCtrl
  | 0x8 => .startDecode
  | 0x9 => .stopDecode
  | 0xA => .setTriggerMode
  | 0xB => .setFillLightBrightness
  | 0xC => .getFirmwareVersion
  | 0xD => .getSoftwareVersion
  | 0xE => .reservedE
  | _ => .reservedF

/-- A byte written to `OPSEL`, which is 4 bits wide (10_state R21). -/
def decodeSelect (b : Byte) : Decoded :=
  if b.toNat < 16 then .instr (decodeOpsel (b.setWidth 4)) else .rejected .selectCodeTooWide

/-- The frames of 3 bytes: K3 and K3P (R59, R63). -/
def decodeFrame3 (b0 b1 b2 : Byte) : Decoded :=
  if b0 = 0x32#8 ∧ b1 = 0x75#8 ∧ b2 = 0x01#8 then .instr .startDecodeFrame
  else if b0 = 0x32#8 ∧ b1 = 0x75#8 ∧ b2 = 0x02#8 then .instr .stopDecodeFrame
  else if b0 = 0x43#8 ∧ b1 = 0x02#8 then .instr (.getInfosFrame b2)
  else .rejected .unknownFrame

/-- The frames of 4 bytes: K4P (R59, R63). The brightness placed in a frame is the clamped one (R64). -/
def decodeFrame4 (b0 b1 b2 b3 : Byte) : Decoded :=
  if b0 = 0x21#8 ∧ b1 = 0x61#8 ∧ b2 = 0x41#8 then .instr (.setTriggerModeFrame b3)
  else if b0 = 0x21#8 ∧ b1 = 0x62#8 ∧ b2 = 0x48#8 then
    if b3.toNat ≤ Config.brightnessMax then .instr (.setFillLightBrightnessFrame b3)
    else .rejected .brightnessOutOfRange
  else .rejected .unknownFrame

/-- The payload length an envelope declares: big-endian, byte 3 the high byte (20_memory R46). -/
def declaredLength (hi lo : Byte) : Nat :=
  hi.toNat * 256 + lo.toNat

/-- The acks of 5 bytes: A5 (R60, R63). -/
def decodeAck (b0 b1 b2 b3 b4 : Byte) : Option Instr :=
  if b0 = 0x33#8 ∧ b1 = 0x75#8 ∧ b2 = 0x02#8 ∧ b3 = 0x00#8 ∧ b4 = 0x00#8 then
    some .stopDecodeAck
  else if b0 = 0x22#8 ∧ b1 = 0x61#8 ∧ b2 = 0x41#8 ∧ b4 = 0x00#8 then
    some (.setTriggerModeAck b3)
  else if b0 = 0x22#8 ∧ b1 = 0x62#8 ∧ b2 = 0x48#8 ∧ b4 = 0x00#8 then
    some (.setFillLightBrightnessAck b3)
  else none

/-- An envelope of five bytes or more, valid by its length alone (R61). -/
def decodeEnvelope (b0 b1 b2 b3 b4 : Byte) (body : Bytes) : Decoded :=
  if declaredLength b3 b4 ≤ body.length then .instr (.responseEnvelope b0 b1 b2 b3 b4 body)
  else .rejected .shortEnvelope

/-- What the module sends: exactly five bytes that fit an ack row are the ack (log entry 7). -/
def decodeFromModule (b0 b1 b2 b3 b4 : Byte) (body : Bytes) : Decoded :=
  match body, decodeAck b0 b1 b2 b3 b4 with
  | [], some i => .instr i
  | _, _ => decodeEnvelope b0 b1 b2 b3 b4 body

/-- The instruction a sequence of bytes stands for. -/
def decode : Bytes → Decoded
  | [] => .rejected .empty
  | [b] => decodeSelect b
  | [_, _] => .rejected .unknownFrame
  | [b0, b1, b2] => decodeFrame3 b0 b1 b2
  | [b0, b1, b2, b3] => decodeFrame4 b0 b1 b2 b3
  | b0 :: b1 :: b2 :: b3 :: b4 :: body => decodeFromModule b0 b1 b2 b3 b4 body

/-- The bytes of an instruction, written from the tables of R63, R67 and R68. -/
def encode : Instr → Bytes
  | .reserved0 => [0x00#8]
  | .execute => [0x01#8]
  | .waitResponse => [0x02#8]
  | .extractPayload => [0x03#8]
  | .getInfo => [0x04#8]
  | .poll => [0x05#8]
  | .resultName => [0x06#8]
  | .setCtrl => [0x07#8]
  | .startDecode => [0x08#8]
  | .stopDecode => [0x09#8]
  | .setTriggerMode => [0x0A#8]
  | .setFillLightBrightness => [0x0B#8]
  | .getFirmwareVersion => [0x0C#8]
  | .getSoftwareVersion => [0x0D#8]
  | .reservedE => [0x0E#8]
  | .reservedF => [0x0F#8]
  | .startDecodeFrame => [0x32#8, 0x75#8, 0x01#8]
  | .stopDecodeFrame => [0x32#8, 0x75#8, 0x02#8]
  | .setTriggerModeFrame m => [0x21#8, 0x61#8, 0x41#8, m]
  | .setFillLightBrightnessFrame b => [0x21#8, 0x62#8, 0x48#8, b]
  | .getInfosFrame id => [0x43#8, 0x02#8, id]
  | .stopDecodeAck => [0x33#8, 0x75#8, 0x02#8, 0x00#8, 0x00#8]
  | .setTriggerModeAck m => [0x22#8, 0x61#8, 0x41#8, m, 0x00#8]
  | .setFillLightBrightnessAck b => [0x22#8, 0x62#8, 0x48#8, b, 0x00#8]
  | .responseEnvelope h0 h1 h2 hi lo body => h0 :: h1 :: h2 :: hi :: lo :: body

/-- The lowest `n` bytes of a number, the most significant first. -/
def bytesOfNat : Nat → Nat → Bytes
  | 0, _ => []
  | n + 1, w => BitVec.ofNat 8 (w / 256 ^ n) :: bytesOfNat n w

/-- The zero bytes above the table's 40 bits of a response envelope: as many as it declares. -/
def envelopeTail : Bytes → Bytes
  | [b0, b1, b2, b3, b4] =>
    match decodeAck b0 b1 b2 b3 b4 with
    | some _ => []
    | none => List.replicate (declaredLength b3 b4) 0x00#8
  | _ => []

/-- The bytes of an instruction whose bits are `w`, numbered as spec/opcode_table.json numbers them:
a row is ONE number, bit 0 its least significant bit; a wire row's byte 0 is the most significant
byte of the number (30_encoding's opening; log entry 6), a HOST row's code is bits 3:0. A word of at
most 24 bits below 2^21 is a HOST row's: no 3-byte frame starts with a byte below 0x20, and the
table's reader gives two HOST rows spare bits up to bit 20. -/
def tableWordBytes (nbits w : Nat) : Bytes :=
  if nbits ≤ 24 ∧ w < 2 ^ 21 then [BitVec.ofNat 8 (w % 16)]
  else
    let bs := bytesOfNat ((nbits + 7) / 8) w
    bs ++ envelopeTail bs

/-- The instruction the decoder reads from a word of the opcode table. -/
def decodeTableWord (nbits w : Nat) : Option Instr :=
  match decode (tableWordBytes nbits w) with
  | .instr i => some i
  | .rejected _ => none

end Sys2Proof
end

