-- ==== Sys2Proof/Machine/State.lean ====
section
/-! DEFINITION. The state of the block and of its environment as plain data, the agents' actions,
the ways a step can stop, and the state after reset (spec 10_state, R18 to R37). -/

namespace Sys2Proof.Machine

/-- The sequencer's dwelling states, the only states in which time passes (R18). The codes 5, 6 and
7 of the 3-bit register are written by no rule and have no constructor (U15). -/
inductive Seq where
  /-- waiting for the host (code 0) -/
  | idle
  /-- Execute's settle delay after the write (code 1) -/
  | exSettle
  /-- Execute's sleep between two ack samples (code 2) -/
  | exWait
  /-- GetInfo's settle delay after the write (code 3) -/
  | giSettle
  /-- WaitResponse's sleep between two samples (code 4) -/
  | wrWait
deriving DecidableEq, Repr

/-- On whose behalf a WaitResponse runs (R20). -/
inductive Ctx where
  /-- the host issued `WAIT_RESPONSE` (`CTX_HOST`, 0) -/
  | host
  /-- GetInfo called it (`CTX_GETINFO`, 1) -/
  | getInfo
deriving DecidableEq, Repr

/-- The four values of `RESULT` (R23, R66). -/
inductive CmdResult where
  | success
  | invalidParam
  | timeout
  | ackMismatch
deriving DecidableEq, Repr

/-- The registers at the host port, in the order of their numbers 0 to 11 (R33). -/
inductive HostReg where
  | opsel
  | ctrl
  | status
  | result
  | timeout
  | param
  | frame
  | ack
  | respBuf
  | pay
  | scanResult
  | name
deriving DecidableEq, Repr

/-- A value the host port carries, one whole register (R33). -/
inductive RegValue where
  /-- a numeric register, zero-extended to 32 bits -/
  | word (v : BitVec 32)
  /-- a byte sequence with its length -/
  | bytes (bs : Bytes)
  /-- no defined value: `RESULT` while `RESULT_VALID` is 0 (R23) -/
  | absent
deriving DecidableEq, Repr

/-- A host write to an operand register; no other register takes one, but for the write of `OPSEL`,
which issues an operation (R33). -/
inductive HostWrite where
  | timeout (v : Millis)
  | param (v : Byte)
  | frame (bs : Bytes)
  | ack (bs : Bytes)
  | respBuf (bs : Bytes)
deriving DecidableEq, Repr

/-- One action of an agent, between two segments (R5, R19). -/
inductive Event where
  /-- the clock: one millisecond passes (R35) -/
  | tick
  /-- the module: one byte arrives (R44) -/
  | arrive (b : Byte)
  /-- the sequencer takes a wake that is enabled, ahead of whatever follows in the same millisecond
  (R44, log entry 2) -/
  | wake
  /-- the host or the module: the bytes of one instruction of the opcode table (R67, R72; log entry
  5 for the wire rows) -/
  | instr (bytes : Bytes)
  /-- the host writes an operand register (R33, R114) -/
  | write (w : HostWrite)
  /-- the host reads a register (R33, R114) -/
  | read (r : HostReg)
  /-- the reset input is asserted (R134) -/
  | reset
deriving DecidableEq, Repr

/-- The block's own registers, the environment state of R35, and the model's `events`. -/
@[ext]
structure State where
  /-- `SEQ` (R18) -/
  seq : Seq
  /-- `CTX` (R20) -/
  ctx : Ctx
  /-- `OPSEL`, x0: the last code written (R21, R33) -/
  opsel : OpCode
  /-- `CTRL.BOUND`: a transport is bound (R31) -/
  bound : Bool
  /-- `CTRL.OBS_EN`: an observer is registered (R31) -/
  obsEn : Bool
  /-- `RESULT`, x3 (R23); no defined value while `resultValid` is false (log entry 8) -/
  result : CmdResult
  /-- `STATUS.RESULT_VALID` (R23) -/
  resultValid : Bool
  /-- `TIMEOUT`, x4 (R21) -/
  timeout : Millis
  /-- `PARAM`, x5 (R21) -/
  param : Byte
  /-- `FRAME` with `FRAME_LEN`, x6 (R21) -/
  frame : Bytes
  /-- `ACK` with `ACK_LEN`, x7; the empty sequence is "absent or empty" (R21, R22) -/
  ack : Bytes
  /-- `RESP_BUF` with `RESP_LEN`, x8 (R27) -/
  respBuf : Bytes
  /-- `PAY_SIZE`, x9 bits 15:0 (R24) -/
  paySize : BitVec 16
  /-- `PAY_VALID`, x9 bit 16 (R24) -/
  payValid : Bool
  /-- `SCAN_RESULT` with `SCAN_LEN`, x10 (R28) -/
  scanResult : Bytes
  /-- `NAME`, x11 (R94) -/
  name : Bytes
  /-- the compare latch, not visible to the host (R29; log entry 11) -/
  compareLatch : Bytes
  /-- `T_START`: the start of the timeout window (R30) -/
  tStart : Millis
  /-- `T_MARK`: the start of the sleep in progress (R30) -/
  tMark : Millis
  /-- environment: the millisecond clock (R35) -/
  now : Millis
  /-- environment: the transport's receive queue, oldest byte first (R35) -/
  rxq : Bytes
  /-- environment: every burst sent, oldest first (R35) -/
  txlog : List Bytes
  /-- environment: every notification, oldest first (R35) -/
  obslog : List Bytes
  /-- the MODEL's own: the agents' actions still to come, in the order they happen (log entry 1) -/
  events : List Event
deriving DecidableEq, Repr

/-- Why the machine stops. No rule of the spec stops the block: its failures are values of `RESULT`
(R116) and none is fatal (R125), so there is no fault. -/
inductive Fault where
deriving DecidableEq, Repr

/-- Why a step has no meaning. -/
inductive Refusal where
  /-- raised only by an arm of `exec` whose instruction has no meaning; safe -/
  | notModelled (mnemonic : String)
  /-- raised by every host operation and operand write while `SEQ` is not `IDLE`: the host has no
  write step then (R114, D18, U14); safe -/
  | hostWriteWhileBusy
  /-- raised by a host read of any register but `STATUS` while `SEQ` is not `IDLE` (R114); safe -/
  | hostReadWhileBusy
  /-- raised by `step` at bytes the decoder rejects; safe -/
  | undecodable (e : DecodeError)
deriving DecidableEq, Repr

/-- The outcome of a meaning. -/
abbrev Result := Host.Outcome State Fault Refusal

/-- The machine right after reset (R37). `result`, `compareLatch`, `tStart` and `tMark` have no
value in the spec (log entry 8); `now` and `rxq` are the environment's (log entry 9). -/
def State.reset : State where
  seq := .idle
  ctx := .host
  opsel := 0x0#4
  bound := false
  obsEn := false
  result := .success
  resultValid := false
  timeout := Config.defaultTimeoutMs
  param := 0x00#8
  frame := []
  ack := []
  respBuf := []
  paySize := 0#16
  payValid := false
  scanResult := []
  name := []
  compareLatch := []
  tStart := 0#32
  tMark := 0#32
  now := 0#32
  rxq := []
  txlog := []
  obslog := []
  events := []

end Sys2Proof.Machine
end

