-- ==== Sys2Proof/Machine/Ops.lean ====
section
/-! DEFINITION. The operations every meaning is built from: time (spec 40_engine R74), the four
transport primitives (20_memory R39 to R42), the observer strobe (42_poller R110), sleeping and
completing (00_scope R14), reporting a result (60_exceptions R123), the host's issue of an operation
(30_encoding R67) and the environment's own actions (R35, R44, R134). -/

namespace Sys2Proof.Machine

/-- `elapsed(T)`: milliseconds since `t`, modulo 2^32 (R74). -/
def State.elapsed (s : State) (t : Millis) : Nat :=
  (s.now - t).toNat

/-- How long the sequencer dwells in a state before its wake is enabled (R18, R128). -/
def dwellMs : Seq → Nat
  | .idle => 0
  | .exSettle => Config.exSettleMs
  | .exWait => Config.exGranMs
  | .giSettle => Config.giSettleMs
  | .wrWait => Config.wrGranMs

/-- `STATUS.BUSY` (R18, R26). -/
def State.busy (s : State) : Bool :=
  decide (s.seq ≠ .idle)

/-- The sleep in progress has run its length (R14). -/
def State.wakeEnabled (s : State) : Bool :=
  s.busy && decide (dwellMs s.seq ≤ s.elapsed s.tMark)

/-! ### The transport -/

/-- `RxAvail()` (R39). -/
def State.rxAvail (s : State) : Nat :=
  s.rxq.length

/-- The bytes `RxRead(n)` returns: the `n` oldest, in arrival order (R40). No rule asks for more
than are there (log entry 17). -/
def State.rxHead (s : State) (n : Nat) : Bytes :=
  s.rxq.take n

/-- What `RxRead(n)` does to the queue: the bytes it returns are gone (R40). -/
def State.rxRead (s : State) (n : Nat) : State :=
  { s with rxq := s.rxq.drop n }

/-- `RxDrain()`: one atomic clear (R41). -/
def State.rxDrain (s : State) : State :=
  { s with rxq := [] }

/-- `TxWrite(f)`: the bytes of `f` as one burst (R42). -/
def State.txWrite (s : State) (f : Bytes) : State :=
  { s with txlog := s.txlog ++ [f] }

/-- `Notify(t)`: the observer is told, once and at once (R110). -/
def State.notify (s : State) (t : Bytes) : State :=
  { s with obslog := s.obslog ++ [t] }

/-! ### Sleeping, completing, reporting -/

/-- `sleep(q, d)` with `d` the dwell of `q` (R14). -/
def State.sleep (s : State) (q : Seq) : State :=
  { s with tMark := s.now, seq := q }

/-- `complete` (R14). -/
def State.complete (s : State) : State :=
  { s with seq := .idle }

/-- Reporting a result, the block's one form of taking an exception (R14's `raise`, R116, R123):
nothing is saved and there is no return from it (R124). `SUCCESS` is reported in the same way. -/
def State.report (s : State) (r : CmdResult) : State :=
  { s with result := r, resultValid := true, seq := .idle }

/-! ### Single registers -/

/-- `OPSEL <- c` (R67). -/
def State.setOpsel (s : State) (c : OpCode) : State :=
  { s with opsel := c }

/-- `PARAM <- v` (R21, R104, R105). -/
def State.setParam (s : State) (v : Byte) : State :=
  { s with param := v }

/-- `CTRL.BOUND <- b; CTRL.OBS_EN <- o` (R31, R113). -/
def State.setCtrlBits (s : State) (b o : Bool) : State :=
  { s with bound := b, obsEn := o }

/-- `NAME <- n` (R94). -/
def State.setName (s : State) (n : Bytes) : State :=
  { s with name := n }

/-- `SCAN_RESULT <- r` (R28, R107). -/
def State.setScan (s : State) (r : Bytes) : State :=
  { s with scanResult := r }

/-- `RESP_BUF <- []` (R27). -/
def State.clearResp (s : State) : State :=
  { s with respBuf := [] }

/-- GetInfo's empty outputs: `RESP_BUF <- []; PAY_SIZE <- 0; PAY_VALID <- 0` (R89, R95). -/
def State.clearInfo (s : State) : State :=
  { s with respBuf := [], paySize := 0#16, payValid := false }

/-- `T_START <- now`: a timeout window starts (R30). -/
def State.startWindow (s : State) : State :=
  { s with tStart := s.now }

/-! ### The host's issue of an operation -/

/-- The host writes `code` to `OPSEL` and the issue segment `seg` runs in the same instant; while
the block is busy the host has no such step (R67, R114). -/
def issue (code : OpCode) (seg : State → State) (s : State) : Result :=
  if s.seq = .idle then .next (seg (s.setOpsel code))
  else .refused .hostWriteWhileBusy

/-! ### The environment's own actions -/

/-- One byte arrives, in any dwelling state (R44). -/
def State.arrive (s : State) (b : Byte) : State :=
  { s with rxq := s.rxq ++ [b] }

/-- The bytes of a message arrive one after another with no other action between (R44). -/
def State.arriveAll (s : State) : Bytes → State
  | [] => s
  | b :: bs => (s.arrive b).arriveAll bs

/-- One millisecond passes; the clock wraps at 2^32 (R35, R74). -/
def State.tick (s : State) : State :=
  { s with now := s.now + 1#32 }

/-- The reset input (R134): every piece of the block's state takes its reset value; the queue, the
clock, the histories of what was sent and told, and the agents' further actions stay (log entry
10). -/
def State.assertReset (s : State) : State :=
  { State.reset with
    now := s.now, rxq := s.rxq, txlog := s.txlog, obslog := s.obslog, events := s.events }

end Sys2Proof.Machine
end

