-- ==== Sys2Proof/Machine/Flags.lean ====
section
/-! DEFINITION. The codes and the views of the block's status: the codes of `SEQ`, `CTX` and
`RESULT` (spec 10_state R18, R20, 30_encoding R66), `STATUS` (R26), `CTRL` as a byte (R31),
`INFO_TEXT` (R25), and what the host reads from each register (R33). There are no arithmetic flags
(R26). -/

namespace Sys2Proof.Machine

/-- The 3-bit code of a dwelling state (R18). -/
def seqCode : Seq → BitVec 3
  | .idle => 0#3
  | .exSettle => 1#3
  | .exWait => 2#3
  | .giSettle => 3#3
  | .wrWait => 4#3

/-- The 1-bit code of `CTX` (R20). -/
def ctxCode : Ctx → BitVec 1
  | .host => 0#1
  | .getInfo => 1#1

/-- The 2-bit code of a result, in the source's order (R66). -/
def resultCode : CmdResult → BitVec 2
  | .success => 0#2
  | .invalidParam => 1#2
  | .timeout => 2#2
  | .ackMismatch => 3#2

/-- The result a 2-bit code stands for; all four codes are used (R66). -/
def resultOfCode (c : BitVec 2) : CmdResult :=
  match c.toNat with
  | 0 => .success
  | 1 => .invalidParam
  | 2 => .timeout
  | _ => .ackMismatch

/-- One flag at bit `n` of a byte. -/
def flagBit (f : Bool) (n : Nat) : Byte :=
  if f then 1#8 <<< n else 0#8

/-- `STATUS.SCAN_NONEMPTY` (R26). -/
def State.scanNonempty (s : State) : Bool :=
  decide (0 < s.scanResult.length)

/-- `STATUS`: `BUSY` at bit 0, `RESULT_VALID` at bit 1, `SCAN_NONEMPTY` at bit 2, the rest 0 (R26). -/
def State.status (s : State) : Byte :=
  flagBit s.busy 0 ||| flagBit s.resultValid 1 ||| flagBit s.scanNonempty 2

/-- `CTRL`: `BOUND` at bit 0, `OBS_EN` at bit 1, the rest 0 (R31). -/
def State.ctrl (s : State) : Byte :=
  flagBit s.bound 0 ||| flagBit s.obsEn 1

/-- `INFO_TEXT`: the payload inside `RESP_BUF`, as text (R25, R93). R25 gives it a meaning only until
`RESP_BUF`, `PAY_SIZE` or `PAY_VALID` is next written; after that it is, by the model's choice, what
the buffer then holds of these indices, which can be fewer than `PAY_SIZE` bytes (log entry 29). -/
def State.infoText (s : State) : Bytes :=
  if s.paySize = 0#16 then [] else (s.respBuf.drop 5).take s.paySize.toNat

/-- Register x9: `PAY_SIZE` in bits 15:0, `PAY_VALID` at bit 16 (R33). -/
def State.pay (s : State) : BitVec 32 :=
  s.paySize.setWidth 32 ||| (if s.payValid then 0x10000#32 else 0#32)

/-- The number of a host register (R33). -/
def regNumber : HostReg → Nat
  | .opsel => 0
  | .ctrl => 1
  | .status => 2
  | .result => 3
  | .timeout => 4
  | .param => 5
  | .frame => 6
  | .ack => 7
  | .respBuf => 8
  | .pay => 9
  | .scanResult => 10
  | .name => 11

/-- The register `x[n]`, where there is one (R33). -/
def regOfNumber : Nat → Option HostReg
  | 0 => some .opsel
  | 1 => some .ctrl
  | 2 => some .status
  | 3 => some .result
  | 4 => some .timeout
  | 5 => some .param
  | 6 => some .frame
  | 7 => some .ack
  | 8 => some .respBuf
  | 9 => some .pay
  | 10 => some .scanResult
  | 11 => some .name
  | _ => none

/-- The value a register holds for the host (R33); `RESULT` has none before its first write (R23). -/
def State.regValue (s : State) : HostReg → RegValue
  | .opsel => .word (s.opsel.setWidth 32)
  | .ctrl => .word (s.ctrl.setWidth 32)
  | .status => .word (s.status.setWidth 32)
  | .result => if s.resultValid then .word ((resultCode s.result).setWidth 32) else .absent
  | .timeout => .word s.timeout
  | .param => .word (s.param.setWidth 32)
  | .frame => .bytes s.frame
  | .ack => .bytes s.ack
  | .respBuf => .bytes s.respBuf
  | .pay => .word s.pay
  | .scanResult => .bytes s.scanResult
  | .name => .bytes s.name

/-- What a host read gives: any register while the block is idle, only `STATUS` while it is busy
(R114). -/
def State.hostRead (s : State) (r : HostReg) : Option RegValue :=
  if s.seq = .idle ∨ r = .status then some (s.regValue r) else none

end Sys2Proof.Machine
end

