-- ==== Sys2Proof/Machine/Operands.lean ====
section
/-! DEFINITION. The operands: the host's writes to the operand registers (spec 10_state R21, R33,
42_poller R114), and the command framer's frames, acks and parameters (30_encoding R59, R60, R63,
R64). -/

namespace Sys2Proof.Machine

/-- The register an operand write goes to (R33). -/
def HostWrite.reg : HostWrite → HostReg
  | .timeout _ => .timeout
  | .param _ => .param
  | .frame _ => .frame
  | .ack _ => .ack
  | .respBuf _ => .respBuf

/-- The register takes the whole value (R33). -/
def State.applyWrite (s : State) : HostWrite → State
  | .timeout v => { s with timeout := v }
  | .param v => { s with param := v }
  | .frame bs => { s with frame := bs }
  | .ack bs => { s with ack := bs }
  | .respBuf bs => { s with respBuf := bs }

/-- A host write is accepted only while `SEQ` is `IDLE` (R114). -/
def hostWrite (w : HostWrite) (s : State) : Result :=
  if s.seq = .idle then .next (s.applyWrite w) else .refused .hostWriteWhileBusy

/-! ### Layouts -/

/-- Layout K3: three opcode bytes (R59). -/
def frameK3 (o0 o1 o2 : Byte) : Bytes := [o0, o1, o2]

/-- Layout K3P: two opcode bytes and the parameter (R59). -/
def frameK3P (o0 o1 p : Byte) : Bytes := [o0, o1, p]

/-- Layout K4P: three opcode bytes and the parameter (R59). -/
def frameK4P (o0 o1 o2 p : Byte) : Bytes := [o0, o1, o2, p]

/-- Layout A5: three ack opcode bytes, the echoed parameter or `00`, and the status `00` (R60). -/
def ackA5 (o0 o1 o2 p : Byte) : Bytes := [o0, o1, o2, p, 0x00#8]

/-! ### The command table (R63) -/

def startDecodeFrame : Bytes := frameK3 0x32#8 0x75#8 0x01#8

def stopDecodeFrame : Bytes := frameK3 0x32#8 0x75#8 0x02#8

def stopDecodeAck : Bytes := ackA5 0x33#8 0x75#8 0x02#8 0x00#8

def setTriggerModeFrame (m : Byte) : Bytes := frameK4P 0x21#8 0x61#8 0x41#8 m

def setTriggerModeAck (m : Byte) : Bytes := ackA5 0x22#8 0x61#8 0x41#8 m

def fillLightFrame (b : Byte) : Bytes := frameK4P 0x21#8 0x62#8 0x48#8 b

def fillLightAck (b : Byte) : Bytes := ackA5 0x22#8 0x62#8 0x48#8 b

def getInfosFrame (id : Byte) : Bytes := frameK3P 0x43#8 0x02#8 id

/-- The two info ids the source names (R104, R105). -/
def firmwareVersionId : Byte := 0xC1#8

def softwareVersionId : Byte := 0xC2#8

/-- The brightness clamp, on integers (R96, R102). -/
def clampBrightnessInt (b : Int) : Int :=
  min (max b 0) Config.brightnessMax

/-- The clamp of the unsigned byte in `PARAM` (R102). -/
def clampBrightness (b : Byte) : Byte :=
  BitVec.ofInt 8 (clampBrightnessInt b.toNat)

/-- The command framer writes the built frame, ack and timeout into their registers (R98). -/
def State.loadCommand (s : State) (frame ack : Bytes) (timeout : Millis) : State :=
  { s with frame := frame, ack := ack, timeout := timeout }

end Sys2Proof.Machine
end

