-- ==== Sys2Proof/Machine/Engine.lean ====
section
/-! DEFINITION. The command/response engine (spec 40_engine): the issue segments of `EXECUTE`,
`WAIT_RESPONSE`, `EXTRACT_PAYLOAD`, `GET_INFO` and `RESULT_NAME`, their sample segments, and the
wake segments of the four sleeping states. A segment takes no time and nothing acts inside it (R19),
so each is a function from states to states. -/

namespace Sys2Proof.Machine

/-! ### Execute -/

/-- `EXECUTE`'s issue segment (R75). Also run by every command-table operation (R98). -/
def executeIssue (s : State) : State :=
  if s.bound = false ∨ s.frame = [] then s.report .invalidParam
  else
    let sent := s.rxDrain.txWrite s.frame
    if s.ack = [] then sent.report .success else sent.sleep .exSettle

/-- Execute reads `ACK_LEN` bytes into the compare latch (R29, R77). -/
def State.latchAck (s : State) : State :=
  { s.rxRead s.ack.length with compareLatch := s.rxHead s.ack.length }

/-- Execute's one comparison (R77, R79): the whole pattern, byte by byte. -/
def State.compareAck (s : State) : State :=
  if s.compareLatch = s.ack then s.report .success else s.report .ackMismatch

/-- Execute's sample: the bytes are tested before the time (R77, R122). -/
def executeSample (s : State) : State :=
  if s.ack.length ≤ s.rxAvail then s.latchAck.compareAck
  else if s.timeout.toNat ≤ s.elapsed s.tStart then s.report .timeout
  else s.sleep .exWait

/-- Wake from the settle delay: the timeout window starts here (R76). -/
def executeSettleWake (s : State) : State :=
  executeSample s.startWindow

/-! ### ExtractPayload -/

/-- ExtractPayload as a function of a buffer, to (size, valid) (R87). -/
def payloadOf : Bytes → BitVec 16 × Bool
  | _ :: _ :: _ :: hi :: lo :: body =>
    if declaredLength hi lo ≤ body.length then (BitVec.ofNat 16 (declaredLength hi lo), true)
    else (0#16, false)
  | _ => (0#16, false)

/-- `PAY_SIZE` and `PAY_VALID` take ExtractPayload's two outputs (R24, R87). -/
def State.extractPayload (s : State) : State :=
  { s with paySize := (payloadOf s.respBuf).1, payValid := (payloadOf s.respBuf).2 }

/-! ### WaitResponse -/

/-- The timeout of the WaitResponse in progress (R84). -/
def State.waitTimeout (s : State) : Nat :=
  match s.ctx with
  | .host => s.timeout.toNat
  | .getInfo => Config.defaultTimeoutMs.toNat

/-- What follows the wait: the host's operation completes; GetInfo extracts the payload first (R84,
R91). -/
def waitFinish (s : State) : State :=
  match s.ctx with
  | .host => s.complete
  | .getInfo => s.extractPayload.complete

/-- WaitResponse reads everything the queue holds, in one call, into `RESP_BUF` (R84). -/
def State.readBurst (s : State) : State :=
  { s.rxRead s.rxAvail with respBuf := s.rxHead s.rxAvail }

/-- WaitResponse's sample: the bytes are tested before the time (R84). -/
def waitSample (s : State) : State :=
  if 0 < s.rxAvail then waitFinish s.readBurst
  else if s.waitTimeout ≤ s.elapsed s.tStart then waitFinish s
  else s.sleep .wrWait

/-- The start of a wait: the buffer is cleared and the window starts (R83, R90). -/
def State.beginWait (s : State) (c : Ctx) : State :=
  { s with respBuf := [], tStart := s.now, ctx := c }

/-- `WAIT_RESPONSE`'s issue segment (R83, R95). -/
def waitIssue (s : State) : State :=
  if s.bound = false then s.clearResp.complete
  else waitSample (s.beginWait .host)

/-! ### GetInfo -/

/-- `GET_INFO`'s issue segment (R89, R95); the inner Execute's result is dropped. -/
def getInfoIssue (s : State) : State :=
  if s.bound = false then s.clearInfo.complete
  else (s.rxDrain.txWrite (getInfosFrame s.param)).sleep .giSettle

/-- GetInfo's wake from its settle delay (R90). -/
def getInfoSettleWake (s : State) : State :=
  waitSample (s.beginWait .getInfo)

/-! ### cmdResultToString -/

/-- The enumerator's own name in ASCII (R94, R11). -/
def resultName : CmdResult → Bytes
  | .success => [0x53#8, 0x55#8, 0x43#8, 0x43#8, 0x45#8, 0x53#8, 0x53#8]
  | .invalidParam =>
    [0x49#8, 0x4E#8, 0x56#8, 0x41#8, 0x4C#8, 0x49#8, 0x44#8, 0x5F#8,
     0x50#8, 0x41#8, 0x52#8, 0x41#8, 0x4D#8]
  | .timeout => [0x54#8, 0x49#8, 0x4D#8, 0x45#8, 0x4F#8, 0x55#8, 0x54#8]
  | .ackMismatch =>
    [0x41#8, 0x43#8, 0x4B#8, 0x5F#8, 0x4D#8, 0x49#8, 0x53#8, 0x4D#8,
     0x41#8, 0x54#8, 0x43#8, 0x48#8]

/-- `RESULT_NAME`'s one segment: bits 7:2 of `PARAM` are ignored (R94). -/
def resultNameIssue (s : State) : State :=
  (s.setName (resultName (resultOfCode (s.param.setWidth 2)))).complete

/-! ### The wake of a sleeping sequencer -/

/-- The wake segment of the state the sequencer dwells in (R18, R97). -/
def wake (s : State) : State :=
  match s.seq with
  | .idle => s
  | .exSettle => executeSettleWake s
  | .exWait => executeSample s
  | .giSettle => getInfoSettleWake s
  | .wrWait => waitSample s

/-- The wake, if the sleep has run its length; else nothing (R14, R18). -/
def wakeIfDue (s : State) : State :=
  if s.wakeEnabled then wake s else s

/-! ### The meanings -/

/-- `EXECUTE` (R75 to R81). -/
def execExecute (s : State) : Result :=
  issue 0x1#4 executeIssue s

/-- `WAIT_RESPONSE` (R82 to R86). -/
def execWaitResponse (s : State) : Result :=
  issue 0x2#4 waitIssue s

/-- `EXTRACT_PAYLOAD` (R87, R88): no transport action, no time. -/
def execExtractPayload (s : State) : Result :=
  issue 0x3#4 (fun s => s.extractPayload.complete) s

/-- `GET_INFO` (R89 to R92, R103): the info id is `PARAM`. -/
def execGetInfo (s : State) : Result :=
  issue 0x4#4 getInfoIssue s

/-- `RESULT_NAME` (R94). -/
def execResultName (s : State) : Result :=
  issue 0x6#4 resultNameIssue s

end Sys2Proof.Machine
end

