-- ==== Sys2Proof/Machine/Commands.lean ====
section
/-! DEFINITION. The command-table operations (spec 41_commands): each builds its frame, its ack and
its timeout, writes them to `FRAME`, `ACK` and `TIMEOUT` even when the Execute is then refused, and
runs Execute's issue segment in the same instant (R98). -/

namespace Sys2Proof.Machine

/-- startDecode's issue segment; the timeout written is never read (R99). -/
def startDecodeIssue (s : State) : State :=
  executeIssue (s.loadCommand startDecodeFrame [] Config.defaultTimeoutMs)

/-- stopDecode's issue segment (R100). -/
def stopDecodeIssue (s : State) : State :=
  executeIssue (s.loadCommand stopDecodeFrame stopDecodeAck Config.tmoStopDecodeMs)

/-- setTriggerMode's issue segment: the mode is `PARAM`, not checked (R101, R70). -/
def setTriggerModeIssue (s : State) : State :=
  executeIssue (s.loadCommand (setTriggerModeFrame s.param) (setTriggerModeAck s.param)
    Config.tmoTriggerModeMs)

/-- setFillLightBrightness's issue segment: the clamped byte is in the frame and in the ack; `PARAM`
keeps its value (R102). -/
def fillLightIssue (s : State) : State :=
  executeIssue (s.loadCommand (fillLightFrame (clampBrightness s.param))
    (fillLightAck (clampBrightness s.param)) Config.tmoFillLightMs)

/-- The info query with the id `id` in `PARAM` (R103 to R105). -/
def getInfoOf (id : Byte) (s : State) : State :=
  getInfoIssue (s.setParam id)

/-- `START_DECODE` (R99). -/
def execStartDecode (s : State) : Result :=
  issue 0x8#4 startDecodeIssue s

/-- `STOP_DECODE` (R100). -/
def execStopDecode (s : State) : Result :=
  issue 0x9#4 stopDecodeIssue s

/-- `SET_TRIGGER_MODE` (R101). -/
def execSetTriggerMode (s : State) : Result :=
  issue 0xA#4 setTriggerModeIssue s

/-- `SET_FILL_LIGHT_BRIGHTNESS` (R102). -/
def execSetFillLightBrightness (s : State) : Result :=
  issue 0xB#4 fillLightIssue s

/-- `GET_FIRMWARE_VERSION` (R104). -/
def execGetFirmwareVersion (s : State) : Result :=
  issue 0xC#4 (getInfoOf firmwareVersionId) s

/-- `GET_SOFTWARE_VERSION` (R105). -/
def execGetSoftwareVersion (s : State) : Result :=
  issue 0xD#4 (getInfoOf softwareVersionId) s

end Sys2Proof.Machine
end

