-- ==== Sys2Proof/Machine/Poller.lean ====
section
/-! DEFINITION. The scan-result poller, the control operation and the reserved select codes (spec
42_poller R107 to R113, 30_encoding R68). -/

namespace Sys2Proof.Machine

/-- Steps 1 to 3 of Poll: the scan result is what the queue holds, taken whole; nothing is parsed
(R107, R62). With no transport the scan result is empty and nothing is read (R95); `RESP_BUF` is written
only when the gate passes (R107, R109, vector P5), although R95 lists `[]` for it there (log entry
20). -/
def pollScan (s : State) : State :=
  if s.bound = true ∧ 0 < s.rxAvail then
    s.readBurst.setScan (s.rxHead s.rxAvail)
  else s.setScan []

/-- Step 4 of Poll: the observer is told a non-empty result (R107, R111). -/
def pollNotify (s : State) : State :=
  if s.obsEn = true ∧ 0 < s.scanResult.length then s.notify s.scanResult else s

/-- `POLL`'s one segment (R107, R108). -/
def pollIssue (s : State) : State :=
  (pollNotify (pollScan s)).complete

/-- `SET_CTRL`'s one segment: bits 7:2 of `PARAM` are ignored (R113). -/
def setCtrlIssue (s : State) : State :=
  (s.setCtrlBits (s.param.getLsbD 0) (s.param.getLsbD 1)).complete

/-- A select code that names no operation (R68). -/
def reservedIssue (s : State) : State :=
  s.report .invalidParam

/-- `POLL` (R107 to R111). -/
def execPoll (s : State) : Result :=
  issue 0x5#4 pollIssue s

/-- `SET_CTRL` (R113). -/
def execSetCtrl (s : State) : Result :=
  issue 0x7#4 setCtrlIssue s

/-- Code 0 (R68). -/
def execReserved0 (s : State) : Result :=
  issue 0x0#4 reservedIssue s

/-- Code E (R68). -/
def execReservedE (s : State) : Result :=
  issue 0xE#4 reservedIssue s

/-- Code F (R68). -/
def execReservedF (s : State) : Result :=
  issue 0xF#4 reservedIssue s

end Sys2Proof.Machine
end

