-- ==== Sys2Proof/Machine/Wire.lean ====
section
/-! DEFINITION. The wire rows of the opcode table as instructions (log entry 5).

A frame the block sends stands for the host line of R72 that sends it: the write of `PARAM` with
the frame's parameter, where it has one, then the write of `OPSEL` (as the lines of
95_test_vectors.md are encoded). An ack or an envelope the module sends is the arrival of its bytes
in the receive queue, whatever the block is doing (R44); what the block makes of them is decided at
the next sample or poll (R77, R84, R107). -/

namespace Sys2Proof.Machine

/-- startDecode, frame `32 75 01` (R63, R99). -/
def execStartDecodeFrame (s : State) : Result :=
  issue 0x8#4 startDecodeIssue s

/-- stopDecode, frame `32 75 02` (R63, R100). -/
def execStopDecodeFrame (s : State) : Result :=
  issue 0x9#4 stopDecodeIssue s

/-- setTriggerMode(m), frame `21 61 41 m` (R63, R101). -/
def execSetTriggerModeFrame (m : Byte) (s : State) : Result :=
  issue 0xA#4 (fun s => setTriggerModeIssue (s.setParam m)) s

/-- setFillLightBrightness(b), frame `21 62 48 b` (R63, R102). -/
def execSetFillLightBrightnessFrame (b : Byte) (s : State) : Result :=
  issue 0xB#4 (fun s => fillLightIssue (s.setParam b)) s

/-- getInfos(id), frame `43 02 id` (R63, R103). -/
def execGetInfosFrame (id : Byte) (s : State) : Result :=
  issue 0x4#4 (getInfoOf id) s

/-- The ack of stopDecode arrives (R44, R63). -/
def execStopDecodeAck (s : State) : Result :=
  .next (s.arriveAll stopDecodeAck)

/-- The ack of setTriggerMode(m) arrives (R44, R63). -/
def execSetTriggerModeAck (m : Byte) (s : State) : Result :=
  .next (s.arriveAll (setTriggerModeAck m))

/-- The ack of setFillLightBrightness with the byte `b` arrives (R44, R63). -/
def execSetFillLightBrightnessAck (b : Byte) (s : State) : Result :=
  .next (s.arriveAll (fillLightAck b))

/-- A response envelope arrives, header, length, payload and trailing bytes (R44, R61). -/
def execResponseEnvelope (h0 h1 h2 hi lo : Byte) (body : Bytes) (s : State) : Result :=
  .next (s.arriveAll (h0 :: h1 :: h2 :: hi :: lo :: body))

end Sys2Proof.Machine
end

