-- ==== Sys2Proof/Machine/Dispatch.lean ====
section
/-! DEFINITION. The meaning of each instruction, one arm per constructor. -/

namespace Sys2Proof.Machine

def exec (i : Instr) (s : State) : Host.Outcome State Fault Refusal :=
  match i with
  | .execute => Sys2Proof.Machine.execExecute s
  | .waitResponse => Sys2Proof.Machine.execWaitResponse s
  | .extractPayload => Sys2Proof.Machine.execExtractPayload s
  | .getInfo => Sys2Proof.Machine.execGetInfo s
  | .poll => Sys2Proof.Machine.execPoll s
  | .resultName => Sys2Proof.Machine.execResultName s
  | .setCtrl => Sys2Proof.Machine.execSetCtrl s
  | .startDecode => Sys2Proof.Machine.execStartDecode s
  | .stopDecode => Sys2Proof.Machine.execStopDecode s
  | .setTriggerMode => Sys2Proof.Machine.execSetTriggerMode s
  | .setFillLightBrightness => Sys2Proof.Machine.execSetFillLightBrightness s
  | .getFirmwareVersion => Sys2Proof.Machine.execGetFirmwareVersion s
  | .getSoftwareVersion => Sys2Proof.Machine.execGetSoftwareVersion s
  | .reserved0 => Sys2Proof.Machine.execReserved0 s
  | .reservedE => Sys2Proof.Machine.execReservedE s
  | .reservedF => Sys2Proof.Machine.execReservedF s
  | .startDecodeFrame => Sys2Proof.Machine.execStartDecodeFrame s
  | .stopDecodeFrame => Sys2Proof.Machine.execStopDecodeFrame s
  | .setTriggerModeFrame m => Sys2Proof.Machine.execSetTriggerModeFrame m s
  | .setFillLightBrightnessFrame b => Sys2Proof.Machine.execSetFillLightBrightnessFrame b s
  | .getInfosFrame id => Sys2Proof.Machine.execGetInfosFrame id s
  | .stopDecodeAck => Sys2Proof.Machine.execStopDecodeAck s
  | .setTriggerModeAck m => Sys2Proof.Machine.execSetTriggerModeAck m s
  | .setFillLightBrightnessAck b => Sys2Proof.Machine.execSetFillLightBrightnessAck b s
  | .responseEnvelope h0 h1 h2 hi lo body => Sys2Proof.Machine.execResponseEnvelope h0 h1 h2 hi lo body s

end Sys2Proof.Machine
end

