-- ==== Sys2Proof/Machine/Fetch.lean ====
section
/-! DEFINITION. Fetching: the next action of an agent, and the parts of a step that are not
instructions (spec 00_scope R5, 10_state R19; log entries 1 to 4). -/

namespace Sys2Proof.Machine

/-- The state with the agents' further actions `es`. -/
def State.withEvents (s : State) (es : List Event) : State :=
  { s with events := es }

/-- A host read gives its value and changes nothing (R33, R114). -/
def hostReadStep (r : HostReg) (s : State) : Result :=
  match s.hostRead r with
  | some _ => .next s
  | none => .refused .hostReadWhileBusy

/-- The clock's turn. An enabled wake is taken in the first millisecond in which it is enabled (R76),
so the tick waits for it: `pending` is the state with the tick still to come, `passed` the state
without. -/
def clockTurn (pending passed : State) : State :=
  if pending.wakeEnabled then wake pending else passed.tick

/-- The bytes of an instruction placed where the next step fetches. -/
def State.placeInstr (s : State) (bs : Bytes) : State :=
  s.withEvents (.instr bs :: s.events)

end Sys2Proof.Machine
end

