-- ==== Sys2Proof/Machine/Step.lean ====
section
/-! DEFINITION. One step: one action of one agent (spec 00_scope R5, 10_state R19). -/

namespace Sys2Proof.Machine

/-- The instruction the decoder reads is run; bytes that are none are refused by the decoder's
reason. -/
def runBytes (bs : Bytes) (s : State) : Result :=
  match decode bs with
  | .instr i => exec i s
  | .rejected e => .refused (.undecodable e)

/-- The next action in `events` happens. With none left the sequencer takes an enabled wake, else
nothing happens (R133, R135; log entry 21). -/
def step (s : State) : Host.Outcome State Fault Refusal :=
  match s.events with
  | [] => .next (wakeIfDue s)
  | .tick :: rest => .next (clockTurn s (s.withEvents rest))
  | .arrive b :: rest => .next ((s.withEvents rest).arrive b)
  | .wake :: rest => .next (wakeIfDue (s.withEvents rest))
  | .instr bs :: rest => runBytes bs (s.withEvents rest)
  | .write w :: rest => hostWrite w (s.withEvents rest)
  | .read r :: rest => hostReadStep r (s.withEvents rest)
  | .reset :: rest => .next (s.withEvents rest).assertReset

/-- The state whose next step fetches and runs the instruction of a word of the opcode table. -/
def State.withFetchWord (s : State) (nbits w : Nat) : State :=
  s.placeInstr (tableWordBytes nbits w)

end Sys2Proof.Machine
end

