-- ==== Sys2Proof/Safety.lean ====
section
/-! DEFINITION. The terms in which claims speak of a run: which instructions are of which kind,
which events are a wake's, the transitions the sequencer may make, and the invariant of the block. -/

namespace Sys2Proof

/-- The rows the host issues: every select code, and the frames, which stand for a host line (log
entry 5). -/
def Instr.isHost : Instr → Bool
  | .stopDecodeAck => false
  | .setTriggerModeAck _ => false
  | .setFillLightBrightnessAck _ => false
  | .responseEnvelope _ _ _ _ _ _ => false
  | .execute => true
  | .waitResponse => true
  | .extractPayload => true
  | .getInfo => true
  | .poll => true
  | .resultName => true
  | .setCtrl => true
  | .startDecode => true
  | .stopDecode => true
  | .setTriggerMode => true
  | .setFillLightBrightness => true
  | .getFirmwareVersion => true
  | .getSoftwareVersion => true
  | .reserved0 => true
  | .reservedE => true
  | .reservedF => true
  | .startDecodeFrame => true
  | .stopDecodeFrame => true
  | .setTriggerModeFrame _ => true
  | .setFillLightBrightnessFrame _ => true
  | .getInfosFrame _ => true

/-- The rows that report a `CmdResult` (R23): Execute, the command-table Executes, the reserved
codes. -/
def Instr.reportsResult : Instr → Bool
  | .execute => true
  | .startDecode => true
  | .stopDecode => true
  | .setTriggerMode => true
  | .setFillLightBrightness => true
  | .startDecodeFrame => true
  | .stopDecodeFrame => true
  | .setTriggerModeFrame _ => true
  | .setFillLightBrightnessFrame _ => true
  | .reserved0 => true
  | .reservedE => true
  | .reservedF => true
  | .waitResponse => false
  | .extractPayload => false
  | .getInfo => false
  | .poll => false
  | .resultName => false
  | .setCtrl => false
  | .getFirmwareVersion => false
  | .getSoftwareVersion => false
  | .getInfosFrame _ => false
  | .stopDecodeAck => false
  | .setTriggerModeAck _ => false
  | .setFillLightBrightnessAck _ => false
  | .responseEnvelope _ _ _ _ _ _ => false

namespace Machine

/-- The sequencer's transitions (R97), a tick and an arrival keeping the state. -/
def seqStep : Seq → Seq → Bool
  | .idle, .idle => true
  | .idle, .exSettle => true
  | .idle, .giSettle => true
  | .idle, .wrWait => true
  | .exSettle, .idle => true
  | .exSettle, .exSettle => true
  | .exSettle, .exWait => true
  | .exWait, .idle => true
  | .exWait, .exWait => true
  | .giSettle, .idle => true
  | .giSettle, .giSettle => true
  | .giSettle, .wrWait => true
  | .wrWait, .idle => true
  | .wrWait, .wrWait => true
  | _, _ => false

/-- The sequencer waits for an ack of the frame it sent last. -/
def State.awaitsAck (s : State) : Prop :=
  s.seq = .exSettle ∨ s.seq = .exWait

/-- The sequencer is in GetInfo. -/
def State.inGetInfo (s : State) : Prop :=
  s.seq = .giSettle ∨ (s.seq = .wrWait ∧ s.ctx = .getInfo)

/-- What holds of the block in every state that the rules can lead to. -/
structure State.Inv (s : State) : Prop where
  /-- `PAY_SIZE` is 0 whenever `PAY_VALID` is 0 (R24). -/
  payload : s.payValid = false → s.paySize = 0#16
  /-- An operation sleeps only with a transport bound (R95). -/
  busyBound : s.seq ≠ .idle → s.bound = true
  /-- A sleep lasts no longer than its length: sleeps are exact (R14, R76, D3). -/
  sleepExact : s.seq ≠ .idle → s.elapsed s.tMark ≤ dwellMs s.seq
  /-- An Execute that sleeps expects an ack, and its frame is the last burst sent (R75, R79). -/
  ackFrame : s.awaitsAck → s.ack ≠ [] ∧ s.frame ≠ [] ∧ s.txlog.getLast? = some s.frame
  /-- Execute's samples are a whole number of 5 ms after the window's start, inside it (R80). -/
  ackGrid : s.seq = .exWait →
    (s.tMark - s.tStart).toNat % 5 = 0 ∧ (s.tMark - s.tStart).toNat < s.timeout.toNat
  /-- GetInfo's frame is the last burst sent (R89). -/
  infoFrame : s.inGetInfo → s.txlog.getLast? = some (getInfosFrame s.param)
  /-- A wait that sleeps has found nothing yet, inside its window (R84). -/
  waitBuffer : s.seq = .wrWait →
    s.respBuf = [] ∧ (s.tMark - s.tStart).toNat < s.waitTimeout
  /-- GetInfo's samples are a whole number of 20 ms after its window's start (R90). -/
  infoGrid : s.seq = .wrWait → s.ctx = .getInfo → (s.tMark - s.tStart).toNat % 20 = 0
  /-- Every burst has a byte (R42). -/
  bursts : ∀ b ∈ s.txlog, b ≠ []
  /-- The observer is told no empty result (R111). -/
  notifications : ∀ t ∈ s.obslog, t ≠ []

/-! ### Runs -/

/-- `k` steps from `s` end in `t`, none of them a stop. -/
def reaches (s : State) (k : Nat) (t : State) : Prop :=
  Host.Core.run Sys2Proof.core k s = .next t

/-- The operation `s` is in, or begins with its first step, ends with the `k`-th step in `t`: the
sequencer is busy between and idle at the end. -/
def endsIn (s : State) (k : Nat) (t : State) : Prop :=
  reaches s k t ∧ t.seq = .idle ∧ 0 < k ∧
    ∀ j, 0 < j → j < k → ∃ u, reaches s j u ∧ u.seq ≠ .idle

/-- `n` milliseconds in which no other agent acts. -/
def quiet (n : Nat) : List Event :=
  List.replicate n .tick

end Machine

end Sys2Proof
end

