-- ==== Sys2Proof/Certificates/Slice0/Obligations.lean ====
section
/-! DEFINITION. The statements for the provers. A next state is written as the record update the
rules give, so that every field not named in it is unchanged: the statement holds the frame.

The statements about a wake are written at the event `wake` (log entries 1 and 2).
`TickWaitsForADueWake` and `DueWakeRunsWhateverCallsForIt` carry them to the wake that a tick waits
for and to the one taken with no action left. -/

open Sys2Proof Sys2Proof.Machine

/-! ### Encoding -/

/-- Decoding the encoding of a well-formed instruction gives it back (R59 to R63, R67, R68). -/
def Obligations.EncodedInstructionsDecodeBack : Prop :=
  ∀ i : Instr, wellFormed i = true → decode (encode i) = .instr i

/-- Bytes that decode are the encoding of what they decode to, and that is well formed: no two byte
sequences stand for one instruction (R63, R67). Two refusals of the decoder that this rests on are
the model's choices: a brightness frame above 64h is no instruction (log entry 18), and five bytes
that read as an ack are the ack's row and never an envelope (log entry 7). -/
def Obligations.DecodedBytesEncodeBack : Prop :=
  ∀ (bs : Bytes) (i : Instr), decode bs = .instr i → encode i = bs ∧ wellFormed i = true

/-- Words written out from the spec's tables decode to their rows (R63, R67, R68, and the example
of R87). -/
def Obligations.WrittenOutWordsDecodeToTheirRows : Prop :=
  decode [0x01#8] = .instr .execute ∧
  decode [0x05#8] = .instr .poll ∧
  decode [0x0B#8] = .instr .setFillLightBrightness ∧
  decode [0x0E#8] = .instr .reservedE ∧
  decode [0x32#8, 0x75#8, 0x01#8] = .instr .startDecodeFrame ∧
  decode [0x21#8, 0x61#8, 0x41#8, 0x03#8] = .instr (.setTriggerModeFrame 0x03#8) ∧
  decode [0x21#8, 0x62#8, 0x48#8, 0x64#8] = .instr (.setFillLightBrightnessFrame 0x64#8) ∧
  decode [0x21#8, 0x62#8, 0x48#8, 0x65#8] = .rejected .brightnessOutOfRange ∧
  decode [0x43#8, 0x02#8, 0xC1#8] = .instr (.getInfosFrame 0xC1#8) ∧
  decode [0x33#8, 0x75#8, 0x02#8, 0x00#8, 0x00#8] = .instr .stopDecodeAck ∧
  decode [0x22#8, 0x61#8, 0x41#8, 0x03#8, 0x00#8] = .instr (.setTriggerModeAck 0x03#8) ∧
  decode [0x22#8, 0x43#8, 0x02#8, 0x00#8, 0x03#8, 0x41#8, 0x42#8, 0x43#8] =
    .instr (.responseEnvelope 0x22#8 0x43#8 0x02#8 0x00#8 0x03#8 [0x41#8, 0x42#8, 0x43#8])

/-! ### Steps -/

/-- A step whose next action is the bytes of an instruction runs that instruction, with the action
taken off the list; bytes that are none are refused by the decoder's reason. -/
def Obligations.StepRunsTheDecodedInstruction : Prop :=
  ∀ (s : State) (bs : Bytes) (rest : List Event), s.events = .instr bs :: rest →
    (∀ i, decode bs = .instr i → step s = exec i { s with events := rest }) ∧
    (∀ e, decode bs = .rejected e → step s = .refused (.undecodable e))

/-- A tick adds one millisecond while no wake is due (R35); when one is due the wake comes first,
in the same millisecond, and the tick is still to come (R76). The step is then the wake of the state
the sequencer dwells in, the same as at the event `wake`. That a tick waits for a due wake is the
model's reading of R76 (log entry 2). -/
def Obligations.TickWaitsForADueWake : Prop :=
  ∀ (s : State) (rest : List Event), s.events = .tick :: rest →
    (s.seq = .idle ∨ (s.now - s.tMark).toNat < dwellMs s.seq →
      step s = .next { s with now := s.now + 1#32, events := rest }) ∧
    (s.seq ≠ .idle → dwellMs s.seq ≤ (s.now - s.tMark).toNat →
      step s = .next (wake s) ∧ step s = step { s with events := .wake :: s.events } ∧
        (wake s).now = s.now ∧ (wake s).events = s.events ∧
        ((wake s).seq = .idle ∨ (wake s).tMark = s.now))

/-- A wake that is due is the same wake however the step comes to it: with no action left, at the
sequencer's own turn, and at a tick that waits for it (R18, R76; log entries 2 and 21). What it does
is said, for each dwelling state, at the event `wake`. -/
def Obligations.DueWakeRunsWhateverCallsForIt : Prop :=
  ∀ s : State, s.seq ≠ .idle → dwellMs s.seq ≤ (s.now - s.tMark).toNat →
    (s.events = [] → step s = .next (wake s) ∧ step s = step { s with events := [.wake] }) ∧
    (∀ rest, s.events = .wake :: rest → step s = .next (wake { s with events := rest })) ∧
    (∀ rest, s.events = .tick :: rest →
      step s = .next (wake s) ∧ step s = step { s with events := .wake :: s.events })

/-- An idle block does nothing by itself (R135), and a block whose sleep has not run its length goes on
sleeping (R14, R149): with no action left, or at the sequencer's own turn, the state stays. -/
def Obligations.NothingRunsByItself : Prop :=
  ∀ s : State, (s.seq = .idle ∨ (s.now - s.tMark).toNat < dwellMs s.seq) →
    (s.events = [] → step s = .next s) ∧
    (∀ rest, s.events = .wake :: rest → step s = .next { s with events := rest })

/-- A byte the module sends goes to the tail of the receive queue, in every dwelling state (R44). -/
def Obligations.ArrivalAppendsAByte : Prop :=
  ∀ (s : State) (b : Byte) (rest : List Event), s.events = .arrive b :: rest →
    step s = .next { s with rxq := s.rxq ++ [b], events := rest }

/-- `elapsed` is subtraction modulo 2^32, and while fewer than 2^32 ms have passed since `T` it is
their true count, also when the clock has wrapped (R74). -/
def Obligations.ElapsedCountsMillisecondsAcrossTheWrap : Prop :=
  (∀ (s : State) (t : Millis), s.elapsed t = (s.now.toNat + 2 ^ 32 - t.toNat) % 2 ^ 32) ∧
  (∀ (s : State) (n : Nat), n < 2 ^ 32 → (State.tick^[n] s).elapsed s.now = n)

/-! ### Reset -/

/-- The values the spec gives for reset (R37); `RESULT`, `T_START`, `T_MARK` and the compare latch
have none, and the clock and the queue are the environment's. -/
def Obligations.ResetLeavesTheStatedValues : Prop :=
  State.reset.seq = .idle ∧ State.reset.ctx = .host ∧
  State.reset.bound = false ∧ State.reset.obsEn = false ∧ State.reset.resultValid = false ∧
  State.reset.respBuf = [] ∧ State.reset.scanResult = [] ∧
  State.reset.paySize = 0#16 ∧ State.reset.payValid = false ∧
  State.reset.frame = [] ∧ State.reset.ack = [] ∧ State.reset.timeout = 1000#32 ∧
  State.reset.param = 0x00#8 ∧ State.reset.opsel = 0x0#4 ∧ State.reset.name = [] ∧
  State.reset.txlog = [] ∧ State.reset.obslog = [] ∧ State.reset.status = 0x00#8

/-- The reset input, whatever the block is doing: the block's state takes the values of R37, no
result is valid, and the queue, the clock and what was sent stay (R134). That the histories `txlog`
and `obslog` are kept is the model's choice (log entry 10). -/
def Obligations.ResetInputStopsTheOperation : Prop :=
  ∀ (s : State) (rest : List Event), s.events = .reset :: rest →
    ∃ t, step s = .next t ∧
      t.seq = .idle ∧ t.ctx = .host ∧ t.bound = false ∧ t.obsEn = false ∧ t.resultValid = false ∧
      t.respBuf = [] ∧ t.scanResult = [] ∧ t.paySize = 0#16 ∧ t.payValid = false ∧
      t.frame = [] ∧ t.ack = [] ∧ t.timeout = 1000#32 ∧ t.param = 0x00#8 ∧ t.opsel = 0x0#4 ∧
      t.name = [] ∧ t.rxq = s.rxq ∧ t.now = s.now ∧ t.txlog = s.txlog ∧ t.obslog = s.obslog ∧
      t.events = rest

/-! ### Execute -/

/-- A fire-and-forget Execute drains, sends its frame as one burst and succeeds at once (R75). -/
def Obligations.ExecuteWithoutAckSucceedsAtOnce : Prop :=
  ∀ s : State, s.seq = .idle → s.bound = true → s.frame ≠ [] → s.ack = [] →
    exec .execute s = .next { s with
      opsel := 0x1#4, rxq := [], txlog := s.txlog ++ [s.frame],
      result := .success, resultValid := true }

/-- An Execute that expects an ack drains, sends its frame as one burst and starts the settle delay
(R75). -/
def Obligations.ExecuteWithAckStartsTheSettleDelay : Prop :=
  ∀ s : State, s.seq = .idle → s.bound = true → s.frame ≠ [] → s.ack ≠ [] →
    exec .execute s = .next { s with
      opsel := 0x1#4, rxq := [], txlog := s.txlog ++ [s.frame], tMark := s.now, seq := .exSettle }

/-- `INVALID_PARAM` leaves everything but `RESULT` as it was (R117): nothing is drained or sent. Of a
command-table operation, `FRAME`, `ACK` and `TIMEOUT` have been written by then. (`OPSEL` holds the
code the host wrote.) -/
def Obligations.InvalidParamLeavesAllButResult : Prop :=
  ∀ s : State, s.seq = .idle →
    (s.bound = false ∨ s.frame = [] →
      exec .execute s = .next { s with
        opsel := 0x1#4, result := .invalidParam, resultValid := true }) ∧
    (s.bound = false →
      exec .startDecode s = .next { s with
        opsel := 0x8#4, frame := [0x32#8, 0x75#8, 0x01#8], ack := [], timeout := 1000#32,
        result := .invalidParam, resultValid := true } ∧
      exec .stopDecode s = .next { s with
        opsel := 0x9#4, frame := [0x32#8, 0x75#8, 0x02#8],
        ack := [0x33#8, 0x75#8, 0x02#8, 0x00#8, 0x00#8], timeout := 150#32,
        result := .invalidParam, resultValid := true } ∧
      exec .setTriggerMode s = .next { s with
        opsel := 0xA#4, frame := [0x21#8, 0x61#8, 0x41#8, s.param],
        ack := [0x22#8, 0x61#8, 0x41#8, s.param, 0x00#8], timeout := 200#32,
        result := .invalidParam, resultValid := true } ∧
      exec .setFillLightBrightness s = .next { s with
        opsel := 0xB#4,
        frame := [0x21#8, 0x62#8, 0x48#8, if s.param.toNat ≤ 100 then s.param else 100#8],
        ack := [0x22#8, 0x62#8, 0x48#8, if s.param.toNat ≤ 100 then s.param else 100#8, 0x00#8],
        timeout := 100#32, result := .invalidParam, resultValid := true })

/-- The wake from the settle delay starts the timeout window and takes the first sample, bytes
before time (R76, R77). -/
def Obligations.SettleWakeTakesTheFirstSample : Prop :=
  ∀ (s : State) (rest : List Event), s.events = .wake :: rest → s.seq = .exSettle →
    100 ≤ (s.now - s.tMark).toNat →
    step s = .next
      (if s.ack.length ≤ s.rxq.length then
        { s with
          events := rest, tStart := s.now, rxq := s.rxq.drop s.ack.length,
          compareLatch := s.rxq.take s.ack.length,
          result := if s.rxq.take s.ack.length = s.ack then .success else .ackMismatch,
          resultValid := true, seq := .idle }
      else if s.timeout = 0#32 then
        { s with
          events := rest, tStart := s.now, result := .timeout, resultValid := true, seq := .idle }
      else { s with events := rest, tStart := s.now, tMark := s.now, seq := .exWait })

/-- A later sample of Execute: `ACK_LEN` bytes decide `SUCCESS` or `ACK_MISMATCH`, a window that has
run out gives `TIMEOUT` with nothing read, else the sequencer sleeps again (R77). -/
def Obligations.WaitWakeTakesTheNextSample : Prop :=
  ∀ (s : State) (rest : List Event), s.events = .wake :: rest → s.seq = .exWait →
    5 ≤ (s.now - s.tMark).toNat →
    step s = .next
      (if s.ack.length ≤ s.rxq.length then
        { s with
          events := rest, rxq := s.rxq.drop s.ack.length,
          compareLatch := s.rxq.take s.ack.length,
          result := if s.rxq.take s.ack.length = s.ack then .success else .ackMismatch,
          resultValid := true, seq := .idle }
      else if s.timeout.toNat ≤ (s.now - s.tStart).toNat then
        { s with events := rest, result := .timeout, resultValid := true, seq := .idle }
      else { s with events := rest, tMark := s.now })

/-- Execute's bytes never reach `RESP_BUF`, `PAY_SIZE`, `PAY_VALID` or `SCAN_RESULT` (R78). The last
clause is about the model's compare latch, which keeps its bytes between segments by the model's
choice (log entry 11). -/
def Obligations.ExecuteLeavesTheBuffers : Prop :=
  (∀ s t : State, exec .execute s = .next t →
    t.respBuf = s.respBuf ∧ t.paySize = s.paySize ∧ t.payValid = s.payValid ∧
    t.scanResult = s.scanResult) ∧
  (∀ (s t : State) (rest : List Event), s.awaitsAck → s.events = .wake :: rest →
    step s = .next t →
    t.respBuf = s.respBuf ∧ t.paySize = s.paySize ∧ t.payValid = s.payValid ∧
    t.scanResult = s.scanResult ∧
    (t.compareLatch = s.compareLatch ∨ t.compareLatch = s.rxq.take s.ack.length))

/-! ### WaitResponse, ExtractPayload, GetInfo, cmdResultToString -/

/-- `WAIT_RESPONSE` clears the buffer and takes its first sample at once: unbound it ends empty
(R95), waiting bytes are all returned, an empty queue ends a wait of 0 ms and starts the sleep of a
longer one (R83, R84). That `CTX` and `T_START` are written also where no sleep follows is the
model's reading of R83, where R20 is narrower (log entry 16). -/
def Obligations.WaitResponseSamplesAtOnce : Prop :=
  ∀ s : State, s.seq = .idle → exec .waitResponse s = .next
    (if s.bound = false then { s with opsel := 0x2#4, respBuf := [] }
    else if s.rxq ≠ [] then
      { s with
        opsel := 0x2#4, respBuf := s.rxq, rxq := [], tStart := s.now, ctx := .host }
    else if s.timeout = 0#32 then
      { s with opsel := 0x2#4, respBuf := [], tStart := s.now, ctx := .host }
    else
      { s with
        opsel := 0x2#4, respBuf := [], tStart := s.now, ctx := .host,
        tMark := s.now, seq := .wrWait })

/-- A later sample of the host's WaitResponse (R84). -/
def Obligations.HostWaitTakesTheNextSample : Prop :=
  ∀ (s : State) (rest : List Event), s.events = .wake :: rest → s.seq = .wrWait →
    s.ctx = .host → 20 ≤ (s.now - s.tMark).toNat →
    step s = .next
      (if s.rxq ≠ [] then
        { s with events := rest, respBuf := s.rxq, rxq := [], seq := .idle }
      else if s.timeout.toNat ≤ (s.now - s.tStart).toNat then
        { s with events := rest, seq := .idle }
      else { s with events := rest, tMark := s.now })

/-- ExtractPayload (R87): a buffer shorter than 5 bytes, or shorter than 5 + L, gives size 0 and not
valid; any other gives L and valid, L big-endian from bytes 3 and 4. The payload is then
`INFO_TEXT`, and nothing else changes. -/
def Obligations.ExtractPayloadValidatesTheLength : Prop :=
  ∀ s : State, s.seq = .idle → ∃ t, exec .extractPayload s = .next t ∧
    t = { s with opsel := 0x3#4, paySize := t.paySize, payValid := t.payValid } ∧
    (s.respBuf.length < 5 → t.paySize = 0#16 ∧ t.payValid = false) ∧
    (∀ h : 5 ≤ s.respBuf.length, ∀ L : Nat,
      L = (s.respBuf[3]'(by omega)).toNat * 256 + (s.respBuf[4]'(by omega)).toNat →
      (s.respBuf.length < 5 + L → t.paySize = 0#16 ∧ t.payValid = false) ∧
      (5 + L ≤ s.respBuf.length → t.paySize.toNat = L ∧ t.payValid = true)) ∧
    t.infoText = (s.respBuf.drop 5).take t.paySize.toNat

/-- Whatever the header bytes and the trailing bytes are, the payload of an envelope in `RESP_BUF`
comes out whole, as `INFO_TEXT` (R61, R25, R93). -/
def Obligations.EnvelopePayloadComesOutWhole : Prop :=
  ∀ (s : State) (h0 h1 h2 : Byte) (payload trailing : Bytes),
    s.seq = .idle → payload.length < 65536 →
    s.respBuf = [h0, h1, h2, BitVec.ofNat 8 (payload.length / 256),
      BitVec.ofNat 8 (payload.length % 256)] ++ payload ++ trailing →
    ∃ t, exec .extractPayload s = .next t ∧ t.paySize.toNat = payload.length ∧
      t.payValid = true ∧ t.infoText = payload

/-- `GET_INFO` with a transport drains, sends `43 02 id` and sleeps; without one it ends with empty
outputs; `RESULT`, `FRAME`, `ACK` and `TIMEOUT` keep their values (R89, R95). -/
def Obligations.GetInfoSendsItsQuery : Prop :=
  ∀ s : State, s.seq = .idle →
    (s.bound = true → exec .getInfo s = .next { s with
      opsel := 0x4#4, rxq := [], txlog := s.txlog ++ [[0x43#8, 0x02#8, s.param]],
      tMark := s.now, seq := .giSettle }) ∧
    (s.bound = false → exec .getInfo s = .next { s with
      opsel := 0x4#4, respBuf := [], paySize := 0#16, payValid := false })

/-- `GET_FIRMWARE_VERSION`: `PARAM <- C1`, then the issue segment of `GET_INFO` in the same instant,
frame `43 02 C1` (R104). -/
def Obligations.FirmwareVersionQueriesC1 : Prop :=
  ∀ s : State, s.seq = .idle →
    (s.bound = true → exec .getFirmwareVersion s = .next { s with
      opsel := 0xC#4, param := 0xC1#8, rxq := [],
      txlog := s.txlog ++ [[0x43#8, 0x02#8, 0xC1#8]], tMark := s.now, seq := .giSettle }) ∧
    (s.bound = false → exec .getFirmwareVersion s = .next { s with
      opsel := 0xC#4, param := 0xC1#8, respBuf := [], paySize := 0#16, payValid := false })

/-- `GET_SOFTWARE_VERSION`: `PARAM <- C2`, then the issue segment of `GET_INFO` in the same instant,
frame `43 02 C2` (R105). -/
def Obligations.SoftwareVersionQueriesC2 : Prop :=
  ∀ s : State, s.seq = .idle →
    (s.bound = true → exec .getSoftwareVersion s = .next { s with
      opsel := 0xD#4, param := 0xC2#8, rxq := [],
      txlog := s.txlog ++ [[0x43#8, 0x02#8, 0xC2#8]], tMark := s.now, seq := .giSettle }) ∧
    (s.bound = false → exec .getSoftwareVersion s = .next { s with
      opsel := 0xD#4, param := 0xC2#8, respBuf := [], paySize := 0#16, payValid := false })

/-- GetInfo's wake from its settle delay: the buffer is cleared, the window starts, and the first
sample reads a reply and extracts it, or sleeps (R90, R84, R91). That `CTX` is `CTX_GETINFO` also
where the operation ends without a sleep is the model's reading of R90, where R20 is narrower (log
entry 16). -/
def Obligations.InfoSettleWakeTakesTheFirstSample : Prop :=
  ∀ (s : State) (rest : List Event), s.events = .wake :: rest → s.seq = .giSettle →
    10 ≤ (s.now - s.tMark).toNat →
    step s = .next
      (if s.rxq ≠ [] then
        { s with
          events := rest, ctx := .getInfo, tStart := s.now, respBuf := s.rxq, rxq := [],
          paySize := (payloadOf s.rxq).1, payValid := (payloadOf s.rxq).2, seq := .idle }
      else
        { s with
          events := rest, ctx := .getInfo, tStart := s.now, respBuf := [],
          tMark := s.now, seq := .wrWait })

/-- A later sample of GetInfo's WaitResponse, with the timeout 1000 ms whatever `TIMEOUT` holds; its
end extracts the payload in the same segment (R84, R91). -/
def Obligations.InfoWaitTakesTheNextSample : Prop :=
  ∀ (s : State) (rest : List Event), s.events = .wake :: rest → s.seq = .wrWait →
    s.ctx = .getInfo → 20 ≤ (s.now - s.tMark).toNat →
    step s = .next
      (if s.rxq ≠ [] then
        { s with
          events := rest, respBuf := s.rxq, rxq := [],
          paySize := (payloadOf s.rxq).1, payValid := (payloadOf s.rxq).2, seq := .idle }
      else if 1000 ≤ (s.now - s.tStart).toNat then
        { s with
          events := rest, paySize := (payloadOf s.respBuf).1,
          payValid := (payloadOf s.respBuf).2, seq := .idle }
      else { s with events := rest, tMark := s.now })

/-- `RESULT_NAME`: the name of the result whose code is `PARAM[1:0]`, in ASCII; bits 7 to 2 are
ignored, `RESULT` is neither read nor written (R94). -/
def Obligations.ResultNameIsTheEnumeratorsName : Prop :=
  ∀ s : State, s.seq = .idle → exec .resultName s = .next { s with
    opsel := 0x6#4
    name :=
      if s.param.toNat % 4 = 0 then
        [0x53#8, 0x55#8, 0x43#8, 0x43#8, 0x45#8, 0x53#8, 0x53#8]
      else if s.param.toNat % 4 = 1 then
        [0x49#8, 0x4E#8, 0x56#8, 0x41#8, 0x4C#8, 0x49#8, 0x44#8, 0x5F#8, 0x50#8, 0x41#8, 0x52#8,
          0x41#8, 0x4D#8]
      else if s.param.toNat % 4 = 2 then
        [0x54#8, 0x49#8, 0x4D#8, 0x45#8, 0x4F#8, 0x55#8, 0x54#8]
      else
        [0x41#8, 0x43#8, 0x4B#8, 0x5F#8, 0x4D#8, 0x49#8, 0x53#8, 0x4D#8, 0x41#8, 0x54#8, 0x43#8,
          0x48#8] }

/-! ### The command table -/

/-- `START_DECODE` drains, sends `32 75 01` and succeeds at once; unbound it is refused and sends
nothing; it never sleeps (R99). -/
def Obligations.StartDecodeNeverWaits : Prop :=
  ∀ s : State, s.seq = .idle →
    (s.bound = true → exec .startDecode s = .next { s with
      opsel := 0x8#4, frame := [0x32#8, 0x75#8, 0x01#8], ack := [], timeout := 1000#32,
      rxq := [], txlog := s.txlog ++ [[0x32#8, 0x75#8, 0x01#8]],
      result := .success, resultValid := true }) ∧
    (s.bound = false → exec .startDecode s = .next { s with
      opsel := 0x8#4, frame := [0x32#8, 0x75#8, 0x01#8], ack := [], timeout := 1000#32,
      result := .invalidParam, resultValid := true })

/-- `STOP_DECODE` sends `32 75 02`, expects `33 75 02 00 00` within 150 ms (R100, R98). -/
def Obligations.StopDecodeSendsItsFrame : Prop :=
  ∀ s : State, s.seq = .idle → s.bound = true → exec .stopDecode s = .next { s with
    opsel := 0x9#4, frame := [0x32#8, 0x75#8, 0x02#8],
    ack := [0x33#8, 0x75#8, 0x02#8, 0x00#8, 0x00#8], timeout := 150#32,
    rxq := [], txlog := s.txlog ++ [[0x32#8, 0x75#8, 0x02#8]],
    tMark := s.now, seq := .exSettle }

/-- `SET_TRIGGER_MODE` sends `21 61 41 m` for every byte `m`, unchecked, and expects the echo
`22 61 41 m 00` within 200 ms (R101, R98, R70). -/
def Obligations.SetTriggerModeSendsEveryMode : Prop :=
  ∀ s : State, s.seq = .idle → s.bound = true → exec .setTriggerMode s = .next { s with
    opsel := 0xA#4, frame := [0x21#8, 0x61#8, 0x41#8, s.param],
    ack := [0x22#8, 0x61#8, 0x41#8, s.param, 0x00#8], timeout := 200#32,
    rxq := [], txlog := s.txlog ++ [[0x21#8, 0x61#8, 0x41#8, s.param]],
    tMark := s.now, seq := .exSettle }

/-- `SET_FILL_LIGHT_BRIGHTNESS` clamps to 100 before framing: the clamped byte is in the frame and in
the expected echo, and `PARAM` keeps its value (R102, R98). -/
def Obligations.FillLightBrightnessIsClamped : Prop :=
  ∀ (s : State) (b : Byte), s.seq = .idle → s.bound = true →
    b = (if s.param.toNat ≤ 100 then s.param else 100#8) →
    exec .setFillLightBrightness s = .next { s with
      opsel := 0xB#4, frame := [0x21#8, 0x62#8, 0x48#8, b],
      ack := [0x22#8, 0x62#8, 0x48#8, b, 0x00#8], timeout := 100#32,
      rxq := [], txlog := s.txlog ++ [[0x21#8, 0x62#8, 0x48#8, b]],
      tMark := s.now, seq := .exSettle }

/-! ### Poll, control, reserved codes -/

/-- `POLL`: the scan result is every byte waiting, raw; a non-empty one is told to a registered
observer exactly once; with nothing waiting it is empty and `RESP_BUF` stays (R107); with no transport
it is empty, the queue stays and nobody is told (R95). That `RESP_BUF` stays also with no transport is
the model's choice between R107, R109 and vector P5, which say so, and R95, which lists `RESP_BUF = []`
(log entry 20). -/
def Obligations.PollTakesTheWholeQueue : Prop :=
  ∀ s : State, s.seq = .idle → exec .poll s = .next
    (if s.bound = true ∧ s.rxq ≠ [] then
      { s with
        opsel := 0x5#4, rxq := [], respBuf := s.rxq, scanResult := s.rxq,
        obslog := if s.obsEn = true then s.obslog ++ [s.rxq] else s.obslog }
    else { s with opsel := 0x5#4, scanResult := [] })

/-- `SET_CTRL` copies `PARAM[0]` to `BOUND` and `PARAM[1]` to `OBS_EN` and changes nothing else
(R113). -/
def Obligations.SetCtrlCopiesTwoBits : Prop :=
  ∀ s : State, s.seq = .idle → exec .setCtrl s = .next { s with
    opsel := 0x7#4, bound := decide (s.param.toNat % 2 = 1),
    obsEn := decide (s.param.toNat / 2 % 2 = 1) }

/-- The reserved codes do no I/O and report `INVALID_PARAM` (R68). -/
def Obligations.ReservedCodesReportInvalidParam : Prop :=
  ∀ s : State, s.seq = .idle →
    exec .reserved0 s = .next { s with
      opsel := 0x0#4, result := .invalidParam, resultValid := true } ∧
    exec .reservedE s = .next { s with
      opsel := 0xE#4, result := .invalidParam, resultValid := true } ∧
    exec .reservedF s = .next { s with
      opsel := 0xF#4, result := .invalidParam, resultValid := true }

/-! ### The wire rows -/

/-- The model's choice for the frame rows (log entry 5), made from R72's host lines: with a transport
bound, the frame of the row is sent, with its parameter in `PARAM`; a brightness of at most 100, as
the row admits, is sent as it is. With none, the registers are written in the same way, nothing is
sent, and the row ends with `INVALID_PARAM` (R75), or, the info query, with empty outputs (R89,
R95). -/
def Obligations.FrameRowsSendTheirFrames : Prop :=
  ∀ (s : State) (p : Byte), s.seq = .idle →
    (s.bound = true →
      exec .startDecodeFrame s = .next { s with
        opsel := 0x8#4, frame := [0x32#8, 0x75#8, 0x01#8], ack := [], timeout := 1000#32,
        rxq := [], txlog := s.txlog ++ [[0x32#8, 0x75#8, 0x01#8]],
        result := .success, resultValid := true } ∧
      exec .stopDecodeFrame s = .next { s with
        opsel := 0x9#4, frame := [0x32#8, 0x75#8, 0x02#8],
        ack := [0x33#8, 0x75#8, 0x02#8, 0x00#8, 0x00#8], timeout := 150#32,
        rxq := [], txlog := s.txlog ++ [[0x32#8, 0x75#8, 0x02#8]],
        tMark := s.now, seq := .exSettle } ∧
      exec (.setTriggerModeFrame p) s = .next { s with
        opsel := 0xA#4, param := p, frame := [0x21#8, 0x61#8, 0x41#8, p],
        ack := [0x22#8, 0x61#8, 0x41#8, p, 0x00#8], timeout := 200#32,
        rxq := [], txlog := s.txlog ++ [[0x21#8, 0x61#8, 0x41#8, p]],
        tMark := s.now, seq := .exSettle } ∧
      (p.toNat ≤ 100 → exec (.setFillLightBrightnessFrame p) s = .next { s with
        opsel := 0xB#4, param := p, frame := [0x21#8, 0x62#8, 0x48#8, p],
        ack := [0x22#8, 0x62#8, 0x48#8, p, 0x00#8], timeout := 100#32,
        rxq := [], txlog := s.txlog ++ [[0x21#8, 0x62#8, 0x48#8, p]],
        tMark := s.now, seq := .exSettle }) ∧
      exec (.getInfosFrame p) s = .next { s with
        opsel := 0x4#4, param := p, rxq := [], txlog := s.txlog ++ [[0x43#8, 0x02#8, p]],
        tMark := s.now, seq := .giSettle }) ∧
    (s.bound = false →
      exec .startDecodeFrame s = .next { s with
        opsel := 0x8#4, frame := [0x32#8, 0x75#8, 0x01#8], ack := [], timeout := 1000#32,
        result := .invalidParam, resultValid := true } ∧
      exec .stopDecodeFrame s = .next { s with
        opsel := 0x9#4, frame := [0x32#8, 0x75#8, 0x02#8],
        ack := [0x33#8, 0x75#8, 0x02#8, 0x00#8, 0x00#8], timeout := 150#32,
        result := .invalidParam, resultValid := true } ∧
      exec (.setTriggerModeFrame p) s = .next { s with
        opsel := 0xA#4, param := p, frame := [0x21#8, 0x61#8, 0x41#8, p],
        ack := [0x22#8, 0x61#8, 0x41#8, p, 0x00#8], timeout := 200#32,
        result := .invalidParam, resultValid := true } ∧
      (p.toNat ≤ 100 → exec (.setFillLightBrightnessFrame p) s = .next { s with
        opsel := 0xB#4, param := p, frame := [0x21#8, 0x62#8, 0x48#8, p],
        ack := [0x22#8, 0x62#8, 0x48#8, p, 0x00#8], timeout := 100#32,
        result := .invalidParam, resultValid := true }) ∧
      exec (.getInfosFrame p) s = .next { s with
        opsel := 0x4#4, param := p, respBuf := [], paySize := 0#16, payValid := false })

/-- The model's choice for the rows the module sends (log entry 5): their bytes arrive at the tail
of the receive queue, in index order, in every dwelling state (R44, R48). -/
def Obligations.ModuleRowsArriveInOrder : Prop :=
  ∀ (s : State) (p h0 h1 h2 hi lo : Byte) (body : Bytes),
    exec .stopDecodeAck s = .next { s with
      rxq := s.rxq ++ [0x33#8, 0x75#8, 0x02#8, 0x00#8, 0x00#8] } ∧
    exec (.setTriggerModeAck p) s = .next { s with
      rxq := s.rxq ++ [0x22#8, 0x61#8, 0x41#8, p, 0x00#8] } ∧
    exec (.setFillLightBrightnessAck p) s = .next { s with
      rxq := s.rxq ++ [0x22#8, 0x62#8, 0x48#8, p, 0x00#8] } ∧
    exec (.responseEnvelope h0 h1 h2 hi lo body) s = .next { s with
      rxq := s.rxq ++ [h0, h1, h2, hi, lo] ++ body }

/-! ### The host's port -/

/-- The host port accepts an operation and a register write only while `SEQ` is `IDLE`; while the
block is busy the host can only read `STATUS` (R114); in `IDLE` it can read every register (R33).
That a write with no step is refused by name is log entry 14. The host operations include the five
frame rows, which stand for host lines by the model's choice (log entry 5). -/
def Obligations.HostPortIsOpenOnlyWhenIdle : Prop :=
  ∀ s : State,
    (s.seq ≠ .idle →
      (∀ i : Instr, i.isHost = true → exec i s = .refused .hostWriteWhileBusy) ∧
      (∀ w : HostWrite, hostWrite w s = .refused .hostWriteWhileBusy) ∧
      (∀ r : HostReg, s.hostRead r ≠ none ↔ r = .status)) ∧
    (s.seq = .idle →
      (∀ i : Instr, i.isHost = true → ∃ t, exec i s = .next t) ∧
      (∀ w : HostWrite, ∃ t, hostWrite w s = .next t) ∧
      (∀ r : HostReg, s.hostRead r ≠ none))

/-- An accepted register write changes that register alone, to the whole value (R21, R33). -/
def Obligations.RegisterWritesReachOneRegister : Prop :=
  ∀ (s : State) (rest : List Event), s.seq = .idle →
    (∀ v, s.events = .write (.timeout v) :: rest →
      step s = .next { s with timeout := v, events := rest }) ∧
    (∀ v, s.events = .write (.param v) :: rest →
      step s = .next { s with param := v, events := rest }) ∧
    (∀ bs, s.events = .write (.frame bs) :: rest →
      step s = .next { s with frame := bs, events := rest }) ∧
    (∀ bs, s.events = .write (.ack bs) :: rest →
      step s = .next { s with ack := bs, events := rest }) ∧
    (∀ bs, s.events = .write (.respBuf bs) :: rest →
      step s = .next { s with respBuf := bs, events := rest })

/-- A host read changes nothing: any register of an idle block, and `STATUS` always; any other read of
a busy block has no step (R33, R114). That a read is an event without effect is the model's choice (log
entry 24), and so is the named refusal of the others (log entry 14). -/
def Obligations.ReadsChangeNothing : Prop :=
  ∀ (s : State) (r : HostReg) (rest : List Event), s.events = .read r :: rest →
    (s.seq = .idle ∨ r = .status → step s = .next { s with events := rest }) ∧
    (s.seq ≠ .idle → r ≠ .status → step s = .refused .hostReadWhileBusy)

/-- `STATUS`: bit 0 is `SEQ != IDLE`, bit 1 `RESULT_VALID`, bit 2 `len(SCAN_RESULT) > 0`, bits 7 to 3
are 0 (R26). -/
def Obligations.StatusShowsItsThreeFlags : Prop :=
  (∀ s : State, s.hostRead .status = some (.word (s.status.setWidth 32))) ∧
  (∀ s : State,
    (s.status.getLsbD 0 = true ↔ s.seq ≠ .idle) ∧
    (s.status.getLsbD 1 = true ↔ s.resultValid = true) ∧
    (s.status.getLsbD 2 = true ↔ 0 < s.scanResult.length) ∧
    (∀ i, 3 ≤ i → s.status.getLsbD i = false)) ∧
  State.reset.status = 0x00#8

/-- What an idle block's registers read as: `RESULT` its code, and no value before its first write
(R23, R66); `CTRL` with bits 7 to 2 zero (R31); x9 with `PAY_VALID` at bit 16 (R33); the rest as
they stand. The twelve numbers are R33's, and no other number names a register. -/
def Obligations.IdleRegistersReadBack : Prop :=
  (∀ s : State, s.seq = .idle →
    (s.resultValid = false → s.hostRead .result = some .absent) ∧
    (s.resultValid = true → s.hostRead .result = some (.word
      (match s.result with
        | .success => 0#32
        | .invalidParam => 1#32
        | .timeout => 2#32
        | .ackMismatch => 3#32))) ∧
    s.hostRead .ctrl = some (.word
      ((if s.bound = true then 1#32 else 0#32) + (if s.obsEn = true then 2#32 else 0#32))) ∧
    s.hostRead .pay = some (.word
      (BitVec.ofNat 32 (s.paySize.toNat + if s.payValid = true then 65536 else 0))) ∧
    s.hostRead .opsel = some (.word (s.opsel.setWidth 32)) ∧
    s.hostRead .timeout = some (.word s.timeout) ∧
    s.hostRead .param = some (.word (s.param.setWidth 32)) ∧
    s.hostRead .frame = some (.bytes s.frame) ∧ s.hostRead .ack = some (.bytes s.ack) ∧
    s.hostRead .respBuf = some (.bytes s.respBuf) ∧
    s.hostRead .scanResult = some (.bytes s.scanResult) ∧
    s.hostRead .name = some (.bytes s.name)) ∧
  (regOfNumber 0 = some .opsel ∧ regOfNumber 1 = some .ctrl ∧ regOfNumber 2 = some .status ∧
    regOfNumber 3 = some .result ∧ regOfNumber 4 = some .timeout ∧ regOfNumber 5 = some .param ∧
    regOfNumber 6 = some .frame ∧ regOfNumber 7 = some .ack ∧ regOfNumber 8 = some .respBuf ∧
    regOfNumber 9 = some .pay ∧ regOfNumber 10 = some .scanResult ∧ regOfNumber 11 = some .name ∧
    ∀ n, 12 ≤ n → regOfNumber n = none) ∧
  (∀ (n : Nat) (r : HostReg), regOfNumber n = some r ↔ regNumber r = n)

/-! ### The whole machine -/

/-- Only `POLL` tells the observer, and only `POLL` and reset write `SCAN_RESULT` (R28, R111). The
first clause includes the reset input: that `obslog` survives it follows R35 and is the model's choice,
since R37 lists `[]` (log entry 10). -/
def Obligations.OnlyPollTellsTheObserver : Prop :=
  ∀ s t : State, step s = .next t →
    (∀ bs rest, s.events = .instr bs :: rest → decode bs ≠ .instr .poll) →
    t.obslog = s.obslog ∧
    ((∀ rest, s.events ≠ .reset :: rest) → t.scanResult = s.scanResult)

/-- A step that sends anything sends one burst, not empty, issued by the host from `IDLE` with a
transport bound, and leaves the receive queue drained (R41, R42, R45, R55); the history is never
shortened (R35). That holds of the reset input too by the model's choice, since R37 lists `[]` for
`txlog` and CT11 allows either (log entry 10). -/
def Obligations.BurstsAreSentOneAtATime : Prop :=
  ∀ s t : State, step s = .next t →
    t.txlog = s.txlog ∨
    ∃ f bs rest, s.events = .instr bs :: rest ∧ s.seq = .idle ∧ s.bound = true ∧
      f ≠ [] ∧ t.txlog = s.txlog ++ [f] ∧ t.rxq = []

/-- Who writes `RESULT`: an operation of the Execute family or a reserved code at its issue, an
Execute that ends its wait, or reset; a result once valid stays valid until reset (R23). -/
def Obligations.OnlyExecutesReportAResult : Prop :=
  ∀ s t : State, step s = .next t → (∀ rest, s.events ≠ .reset :: rest) →
    (s.resultValid = true → t.resultValid = true) ∧
    (t.result ≠ s.result ∨ t.resultValid ≠ s.resultValid →
      t.resultValid = true ∧ t.seq = .idle ∧
      (s.awaitsAck ∨
        ∃ bs rest i, s.events = .instr bs :: rest ∧ decode bs = .instr i ∧
          i.reportsResult = true))

/-- Who writes `PAY_SIZE` and `PAY_VALID`: `EXTRACT_PAYLOAD`, GetInfo, and reset (R24). -/
def Obligations.OnlyExtractionsWriteThePayload : Prop :=
  ∀ s t : State, step s = .next t → (∀ rest, s.events ≠ .reset :: rest) →
    t.paySize ≠ s.paySize ∨ t.payValid ≠ s.payValid →
    s.inGetInfo ∨
      ∃ bs rest i, s.events = .instr bs :: rest ∧ decode bs = .instr i ∧
        (i = .extractPayload ∨ i = .getInfo ∨ i = .getFirmwareVersion ∨ i = .getSoftwareVersion ∨
          ∃ id, i = .getInfosFrame id)

/-- Every transition of `SEQ` is one of R97's; the reset input leads to `IDLE`. -/
def Obligations.SequencerMovesAsListed : Prop :=
  ∀ s t : State, step s = .next t →
    ((∃ rest, s.events = .reset :: rest) → t.seq = .idle) ∧
    ((∀ rest, s.events ≠ .reset :: rest) → seqStep s.seq t.seq = true)

/-- With no transport bound an operation performs no transport action and tells nobody, and ends at
once (R95). -/
def Obligations.UnboundBlockIsSilent : Prop :=
  ∀ (i : Instr) (s t : State), i.isHost = true → s.bound = false → exec i s = .next t →
    t.txlog = s.txlog ∧ t.rxq = s.rxq ∧ t.obslog = s.obslog ∧ t.seq = .idle ∧ t.now = s.now

/-- A wake never writes an operand, never sends and never notifies: an operation in flight sees its
operands unchanged (R58) and its frame is sent once (R79). -/
def Obligations.WakesKeepOperandsAndHistories : Prop :=
  ∀ (s t : State) (rest : List Event), s.events = .wake :: rest → step s = .next t →
    t.opsel = s.opsel ∧ t.frame = s.frame ∧ t.ack = s.ack ∧ t.timeout = s.timeout ∧
    t.param = s.param ∧ t.bound = s.bound ∧ t.obsEn = s.obsEn ∧ t.name = s.name ∧
    t.txlog = s.txlog ∧ t.obslog = s.obslog ∧ t.now = s.now

/-- The block takes bytes from the head of the queue only: after a wake or a host operation what is
left is a tail of what was there (R40, R41, R54). -/
def Obligations.BytesLeaveFromTheHead : Prop :=
  (∀ (i : Instr) (s t : State), i.isHost = true → exec i s = .next t → t.rxq <:+ s.rxq) ∧
  (∀ (s t : State) (rest : List Event), s.events = .wake :: rest → step s = .next t →
    t.rxq <:+ s.rxq)

/-- The invariant of the block holds after every step from a state in which it holds. Its clause on
exact sleeps rests on log entries 2 and 3. -/
def Obligations.EveryStepKeepsTheBlockConsistent : Prop :=
  ∀ s t : State, s.Inv → step s = .next t → t.Inv

/-- The invariant holds after reset. -/
def Obligations.ResetIsConsistent : Prop :=
  State.reset.Inv

/-! ### Deadlines -/

/-- An Execute whose ack does not come gives `TIMEOUT` exactly `100 + 5 * ceil(TIMEOUT / 5)` ms after
its issue, and not earlier; the bytes that came are left unread (R80, R118). Sleeps are exact by log
entry 3. -/
def Obligations.UnansweredExecuteTimesOutOnTime : Prop :=
  ∀ s : State, s.seq = .exSettle → s.tMark = s.now → s.rxq.length < s.ack.length →
    s.events = quiet (100 + 5 * ((s.timeout.toNat + 4) / 5)) →
    ∃ k t, endsIn s k t ∧ t.events = [] ∧ t.result = .timeout ∧ t.resultValid = true ∧
      t.now = s.now + BitVec.ofNat 32 (100 + 5 * ((s.timeout.toNat + 4) / 5)) ∧
      t.rxq = s.rxq ∧ t.txlog = s.txlog

/-- An Execute whose ack is in the queue at any instant of the settle delay, `d` ms into it, and to
which nothing more comes, ends 100 ms after its issue, and not earlier; its first `ACK_LEN` bytes
decide the result and the rest stay (R80, R81). Sleeps are exact by log
entry 3. -/
def Obligations.AnsweredExecuteEndsAfterTheSettle : Prop :=
  ∀ (s : State) (d : Nat), s.seq = .exSettle → (s.now - s.tMark).toNat = d → d ≤ 100 →
    s.ack.length ≤ s.rxq.length → s.events = quiet (100 - d) →
    ∃ k t, endsIn s k t ∧ t.events = [] ∧ t.resultValid = true ∧
      t.result = (if s.rxq.take s.ack.length = s.ack then .success else .ackMismatch) ∧
      t.now = s.tMark + 100#32 ∧ t.rxq = s.rxq.drop s.ack.length

/-- A WaitResponse to which nothing comes ends exactly `20 * ceil(W / 20)` ms after its issue, with an
empty buffer, as long as that is under 2^32 ms (R85). Sleeps are exact by log entry 3; the premise on
2^32 is R74's limit (log entry 26). -/
def Obligations.UnansweredWaitEndsOnTime : Prop :=
  ∀ s : State, s.seq = .idle → s.bound = true → s.rxq = [] →
    20 * ((s.timeout.toNat + 19) / 20) < 2 ^ 32 →
    s.events = .instr [0x02#8] :: quiet (20 * ((s.timeout.toNat + 19) / 20)) →
    ∃ k t, endsIn s k t ∧ t.events = [] ∧ t.respBuf = [] ∧ t.rxq = [] ∧
      t.now = s.now + BitVec.ofNat 32 (20 * ((s.timeout.toNat + 19) / 20)) ∧
      t.result = s.result ∧ t.resultValid = s.resultValid

/-- A GetInfo to which nothing comes ends exactly 1010 ms after its issue with the empty string and
no result written (R90, R92). Sleeps are exact by log entry 3. -/
def Obligations.UnansweredGetInfoEndsOnTime : Prop :=
  ∀ s : State, s.seq = .idle → s.bound = true → s.events = .instr [0x04#8] :: quiet 1010 →
    ∃ k t, endsIn s k t ∧ t.events = [] ∧ t.respBuf = [] ∧ t.paySize = 0#16 ∧
      t.payValid = false ∧ t.infoText = [] ∧ t.now = s.now + 1010#32 ∧
      t.txlog = s.txlog ++ [[0x43#8, 0x02#8, s.param]] ∧
      t.result = s.result ∧ t.resultValid = s.resultValid
end

