-- ==== Sys2Proof/Laws/State.lean ====
section
/-! SUPPORT. The small lemmas of the state's updates: for each shared operation that writes a fixed
set of fields, what every field holds after it. -/

namespace Sys2Proof.Machine

variable (s : State)


/-! ### `rxRead` -/

@[simp] theorem State.rxRead_seq (n : Nat) : (s.rxRead n).seq = s.seq := rfl
@[simp] theorem State.rxRead_ctx (n : Nat) : (s.rxRead n).ctx = s.ctx := rfl
@[simp] theorem State.rxRead_opsel (n : Nat) : (s.rxRead n).opsel = s.opsel := rfl
@[simp] theorem State.rxRead_bound (n : Nat) : (s.rxRead n).bound = s.bound := rfl
@[simp] theorem State.rxRead_obsEn (n : Nat) : (s.rxRead n).obsEn = s.obsEn := rfl
@[simp] theorem State.rxRead_result (n : Nat) : (s.rxRead n).result = s.result := rfl
@[simp] theorem State.rxRead_resultValid (n : Nat) : (s.rxRead n).resultValid = s.resultValid := rfl
@[simp] theorem State.rxRead_timeout (n : Nat) : (s.rxRead n).timeout = s.timeout := rfl
@[simp] theorem State.rxRead_param (n : Nat) : (s.rxRead n).param = s.param := rfl
@[simp] theorem State.rxRead_frame (n : Nat) : (s.rxRead n).frame = s.frame := rfl
@[simp] theorem State.rxRead_ack (n : Nat) : (s.rxRead n).ack = s.ack := rfl
@[simp] theorem State.rxRead_respBuf (n : Nat) : (s.rxRead n).respBuf = s.respBuf := rfl
@[simp] theorem State.rxRead_paySize (n : Nat) : (s.rxRead n).paySize = s.paySize := rfl
@[simp] theorem State.rxRead_payValid (n : Nat) : (s.rxRead n).payValid = s.payValid := rfl
@[simp] theorem State.rxRead_scanResult (n : Nat) : (s.rxRead n).scanResult = s.scanResult := rfl
@[simp] theorem State.rxRead_name (n : Nat) : (s.rxRead n).name = s.name := rfl
@[simp] theorem State.rxRead_compareLatch (n : Nat) : (s.rxRead n).compareLatch = s.compareLatch := rfl
@[simp] theorem State.rxRead_tStart (n : Nat) : (s.rxRead n).tStart = s.tStart := rfl
@[simp] theorem State.rxRead_tMark (n : Nat) : (s.rxRead n).tMark = s.tMark := rfl
@[simp] theorem State.rxRead_now (n : Nat) : (s.rxRead n).now = s.now := rfl
@[simp] theorem State.rxRead_rxq (n : Nat) : (s.rxRead n).rxq = s.rxq.drop n := rfl
@[simp] theorem State.rxRead_txlog (n : Nat) : (s.rxRead n).txlog = s.txlog := rfl
@[simp] theorem State.rxRead_obslog (n : Nat) : (s.rxRead n).obslog = s.obslog := rfl
@[simp] theorem State.rxRead_events (n : Nat) : (s.rxRead n).events = s.events := rfl

/-! ### `rxDrain` -/

@[simp] theorem State.rxDrain_seq : (s.rxDrain).seq = s.seq := rfl
@[simp] theorem State.rxDrain_ctx : (s.rxDrain).ctx = s.ctx := rfl
@[simp] theorem State.rxDrain_opsel : (s.rxDrain).opsel = s.opsel := rfl
@[simp] theorem State.rxDrain_bound : (s.rxDrain).bound = s.bound := rfl
@[simp] theorem State.rxDrain_obsEn : (s.rxDrain).obsEn = s.obsEn := rfl
@[simp] theorem State.rxDrain_result : (s.rxDrain).result = s.result := rfl
@[simp] theorem State.rxDrain_resultValid : (s.rxDrain).resultValid = s.resultValid := rfl
@[simp] theorem State.rxDrain_timeout : (s.rxDrain).timeout = s.timeout := rfl
@[simp] theorem State.rxDrain_param : (s.rxDrain).param = s.param := rfl
@[simp] theorem State.rxDrain_frame : (s.rxDrain).frame = s.frame := rfl
@[simp] theorem State.rxDrain_ack : (s.rxDrain).ack = s.ack := rfl
@[simp] theorem State.rxDrain_respBuf : (s.rxDrain).respBuf = s.respBuf := rfl
@[simp] theorem State.rxDrain_paySize : (s.rxDrain).paySize = s.paySize := rfl
@[simp] theorem State.rxDrain_payValid : (s.rxDrain).payValid = s.payValid := rfl
@[simp] theorem State.rxDrain_scanResult : (s.rxDrain).scanResult = s.scanResult := rfl
@[simp] theorem State.rxDrain_name : (s.rxDrain).name = s.name := rfl
@[simp] theorem State.rxDrain_compareLatch : (s.rxDrain).compareLatch = s.compareLatch := rfl
@[simp] theorem State.rxDrain_tStart : (s.rxDrain).tStart = s.tStart := rfl
@[simp] theorem State.rxDrain_tMark : (s.rxDrain).tMark = s.tMark := rfl
@[simp] theorem State.rxDrain_now : (s.rxDrain).now = s.now := rfl
@[simp] theorem State.rxDrain_rxq : (s.rxDrain).rxq = [] := rfl
@[simp] theorem State.rxDrain_txlog : (s.rxDrain).txlog = s.txlog := rfl
@[simp] theorem State.rxDrain_obslog : (s.rxDrain).obslog = s.obslog := rfl
@[simp] theorem State.rxDrain_events : (s.rxDrain).events = s.events := rfl

/-! ### `txWrite` -/

@[simp] theorem State.txWrite_seq (f : Bytes) : (s.txWrite f).seq = s.seq := rfl
@[simp] theorem State.txWrite_ctx (f : Bytes) : (s.txWrite f).ctx = s.ctx := rfl
@[simp] theorem State.txWrite_opsel (f : Bytes) : (s.txWrite f).opsel = s.opsel := rfl
@[simp] theorem State.txWrite_bound (f : Bytes) : (s.txWrite f).bound = s.bound := rfl
@[simp] theorem State.txWrite_obsEn (f : Bytes) : (s.txWrite f).obsEn = s.obsEn := rfl
@[simp] theorem State.txWrite_result (f : Bytes) : (s.txWrite f).result = s.result := rfl
@[simp] theorem State.txWrite_resultValid (f : Bytes) : (s.txWrite f).resultValid = s.resultValid := rfl
@[simp] theorem State.txWrite_timeout (f : Bytes) : (s.txWrite f).timeout = s.timeout := rfl
@[simp] theorem State.txWrite_param (f : Bytes) : (s.txWrite f).param = s.param := rfl
@[simp] theorem State.txWrite_frame (f : Bytes) : (s.txWrite f).frame = s.frame := rfl
@[simp] theorem State.txWrite_ack (f : Bytes) : (s.txWrite f).ack = s.ack := rfl
@[simp] theorem State.txWrite_respBuf (f : Bytes) : (s.txWrite f).respBuf = s.respBuf := rfl
@[simp] theorem State.txWrite_paySize (f : Bytes) : (s.txWrite f).paySize = s.paySize := rfl
@[simp] theorem State.txWrite_payValid (f : Bytes) : (s.txWrite f).payValid = s.payValid := rfl
@[simp] theorem State.txWrite_scanResult (f : Bytes) : (s.txWrite f).scanResult = s.scanResult := rfl
@[simp] theorem State.txWrite_name (f : Bytes) : (s.txWrite f).name = s.name := rfl
@[simp] theorem State.txWrite_compareLatch (f : Bytes) : (s.txWrite f).compareLatch = s.compareLatch := rfl
@[simp] theorem State.txWrite_tStart (f : Bytes) : (s.txWrite f).tStart = s.tStart := rfl
@[simp] theorem State.txWrite_tMark (f : Bytes) : (s.txWrite f).tMark = s.tMark := rfl
@[simp] theorem State.txWrite_now (f : Bytes) : (s.txWrite f).now = s.now := rfl
@[simp] theorem State.txWrite_rxq (f : Bytes) : (s.txWrite f).rxq = s.rxq := rfl
@[simp] theorem State.txWrite_txlog (f : Bytes) : (s.txWrite f).txlog = s.txlog ++ [f] := rfl
@[simp] theorem State.txWrite_obslog (f : Bytes) : (s.txWrite f).obslog = s.obslog := rfl
@[simp] theorem State.txWrite_events (f : Bytes) : (s.txWrite f).events = s.events := rfl

/-! ### `notify` -/

@[simp] theorem State.notify_seq (t : Bytes) : (s.notify t).seq = s.seq := rfl
@[simp] theorem State.notify_ctx (t : Bytes) : (s.notify t).ctx = s.ctx := rfl
@[simp] theorem State.notify_opsel (t : Bytes) : (s.notify t).opsel = s.opsel := rfl
@[simp] theorem State.notify_bound (t : Bytes) : (s.notify t).bound = s.bound := rfl
@[simp] theorem State.notify_obsEn (t : Bytes) : (s.notify t).obsEn = s.obsEn := rfl
@[simp] theorem State.notify_result (t : Bytes) : (s.notify t).result = s.result := rfl
@[simp] theorem State.notify_resultValid (t : Bytes) : (s.notify t).resultValid = s.resultValid := rfl
@[simp] theorem State.notify_timeout (t : Bytes) : (s.notify t).timeout = s.timeout := rfl
@[simp] theorem State.notify_param (t : Bytes) : (s.notify t).param = s.param := rfl
@[simp] theorem State.notify_frame (t : Bytes) : (s.notify t).frame = s.frame := rfl
@[simp] theorem State.notify_ack (t : Bytes) : (s.notify t).ack = s.ack := rfl
@[simp] theorem State.notify_respBuf (t : Bytes) : (s.notify t).respBuf = s.respBuf := rfl
@[simp] theorem State.notify_paySize (t : Bytes) : (s.notify t).paySize = s.paySize := rfl
@[simp] theorem State.notify_payValid (t : Bytes) : (s.notify t).payValid = s.payValid := rfl
@[simp] theorem State.notify_scanResult (t : Bytes) : (s.notify t).scanResult = s.scanResult := rfl
@[simp] theorem State.notify_name (t : Bytes) : (s.notify t).name = s.name := rfl
@[simp] theorem State.notify_compareLatch (t : Bytes) : (s.notify t).compareLatch = s.compareLatch := rfl
@[simp] theorem State.notify_tStart (t : Bytes) : (s.notify t).tStart = s.tStart := rfl
@[simp] theorem State.notify_tMark (t : Bytes) : (s.notify t).tMark = s.tMark := rfl
@[simp] theorem State.notify_now (t : Bytes) : (s.notify t).now = s.now := rfl
@[simp] theorem State.notify_rxq (t : Bytes) : (s.notify t).rxq = s.rxq := rfl
@[simp] theorem State.notify_txlog (t : Bytes) : (s.notify t).txlog = s.txlog := rfl
@[simp] theorem State.notify_obslog (t : Bytes) : (s.notify t).obslog = s.obslog ++ [t] := rfl
@[simp] theorem State.notify_events (t : Bytes) : (s.notify t).events = s.events := rfl

/-! ### `sleep` -/

@[simp] theorem State.sleep_seq (q : Seq) : (s.sleep q).seq = q := rfl
@[simp] theorem State.sleep_ctx (q : Seq) : (s.sleep q).ctx = s.ctx := rfl
@[simp] theorem State.sleep_opsel (q : Seq) : (s.sleep q).opsel = s.opsel := rfl
@[simp] theorem State.sleep_bound (q : Seq) : (s.sleep q).bound = s.bound := rfl
@[simp] theorem State.sleep_obsEn (q : Seq) : (s.sleep q).obsEn = s.obsEn := rfl
@[simp] theorem State.sleep_result (q : Seq) : (s.sleep q).result = s.result := rfl
@[simp] theorem State.sleep_resultValid (q : Seq) : (s.sleep q).resultValid = s.resultValid := rfl
@[simp] theorem State.sleep_timeout (q : Seq) : (s.sleep q).timeout = s.timeout := rfl
@[simp] theorem State.sleep_param (q : Seq) : (s.sleep q).param = s.param := rfl
@[simp] theorem State.sleep_frame (q : Seq) : (s.sleep q).frame = s.frame := rfl
@[simp] theorem State.sleep_ack (q : Seq) : (s.sleep q).ack = s.ack := rfl
@[simp] theorem State.sleep_respBuf (q : Seq) : (s.sleep q).respBuf = s.respBuf := rfl
@[simp] theorem State.sleep_paySize (q : Seq) : (s.sleep q).paySize = s.paySize := rfl
@[simp] theorem State.sleep_payValid (q : Seq) : (s.sleep q).payValid = s.payValid := rfl
@[simp] theorem State.sleep_scanResult (q : Seq) : (s.sleep q).scanResult = s.scanResult := rfl
@[simp] theorem State.sleep_name (q : Seq) : (s.sleep q).name = s.name := rfl
@[simp] theorem State.sleep_compareLatch (q : Seq) : (s.sleep q).compareLatch = s.compareLatch := rfl
@[simp] theorem State.sleep_tStart (q : Seq) : (s.sleep q).tStart = s.tStart := rfl
@[simp] theorem State.sleep_tMark (q : Seq) : (s.sleep q).tMark = s.now := rfl
@[simp] theorem State.sleep_now (q : Seq) : (s.sleep q).now = s.now := rfl
@[simp] theorem State.sleep_rxq (q : Seq) : (s.sleep q).rxq = s.rxq := rfl
@[simp] theorem State.sleep_txlog (q : Seq) : (s.sleep q).txlog = s.txlog := rfl
@[simp] theorem State.sleep_obslog (q : Seq) : (s.sleep q).obslog = s.obslog := rfl
@[simp] theorem State.sleep_events (q : Seq) : (s.sleep q).events = s.events := rfl

/-! ### `complete` -/

@[simp] theorem State.complete_seq : (s.complete).seq = .idle := rfl
@[simp] theorem State.complete_ctx : (s.complete).ctx = s.ctx := rfl
@[simp] theorem State.complete_opsel : (s.complete).opsel = s.opsel := rfl
@[simp] theorem State.complete_bound : (s.complete).bound = s.bound := rfl
@[simp] theorem State.complete_obsEn : (s.complete).obsEn = s.obsEn := rfl
@[simp] theorem State.complete_result : (s.complete).result = s.result := rfl
@[simp] theorem State.complete_resultValid : (s.complete).resultValid = s.resultValid := rfl
@[simp] theorem State.complete_timeout : (s.complete).timeout = s.timeout := rfl
@[simp] theorem State.complete_param : (s.complete).param = s.param := rfl
@[simp] theorem State.complete_frame : (s.complete).frame = s.frame := rfl
@[simp] theorem State.complete_ack : (s.complete).ack = s.ack := rfl
@[simp] theorem State.complete_respBuf : (s.complete).respBuf = s.respBuf := rfl
@[simp] theorem State.complete_paySize : (s.complete).paySize = s.paySize := rfl
@[simp] theorem State.complete_payValid : (s.complete).payValid = s.payValid := rfl
@[simp] theorem State.complete_scanResult : (s.complete).scanResult = s.scanResult := rfl
@[simp] theorem State.complete_name : (s.complete).name = s.name := rfl
@[simp] theorem State.complete_compareLatch : (s.complete).compareLatch = s.compareLatch := rfl
@[simp] theorem State.complete_tStart : (s.complete).tStart = s.tStart := rfl
@[simp] theorem State.complete_tMark : (s.complete).tMark = s.tMark := rfl
@[simp] theorem State.complete_now : (s.complete).now = s.now := rfl
@[simp] theorem State.complete_rxq : (s.complete).rxq = s.rxq := rfl
@[simp] theorem State.complete_txlog : (s.complete).txlog = s.txlog := rfl
@[simp] theorem State.complete_obslog : (s.complete).obslog = s.obslog := rfl
@[simp] theorem State.complete_events : (s.complete).events = s.events := rfl

/-! ### `report` -/

@[simp] theorem State.report_seq (r : CmdResult) : (s.report r).seq = .idle := rfl
@[simp] theorem State.report_ctx (r : CmdResult) : (s.report r).ctx = s.ctx := rfl
@[simp] theorem State.report_opsel (r : CmdResult) : (s.report r).opsel = s.opsel := rfl
@[simp] theorem State.report_bound (r : CmdResult) : (s.report r).bound = s.bound := rfl
@[simp] theorem State.report_obsEn (r : CmdResult) : (s.report r).obsEn = s.obsEn := rfl
@[simp] theorem State.report_result (r : CmdResult) : (s.report r).result = r := rfl
@[simp] theorem State.report_resultValid (r : CmdResult) : (s.report r).resultValid = true := rfl
@[simp] theorem State.report_timeout (r : CmdResult) : (s.report r).timeout = s.timeout := rfl
@[simp] theorem State.report_param (r : CmdResult) : (s.report r).param = s.param := rfl
@[simp] theorem State.report_frame (r : CmdResult) : (s.report r).frame = s.frame := rfl
@[simp] theorem State.report_ack (r : CmdResult) : (s.report r).ack = s.ack := rfl
@[simp] theorem State.report_respBuf (r : CmdResult) : (s.report r).respBuf = s.respBuf := rfl
@[simp] theorem State.report_paySize (r : CmdResult) : (s.report r).paySize = s.paySize := rfl
@[simp] theorem State.report_payValid (r : CmdResult) : (s.report r).payValid = s.payValid := rfl
@[simp] theorem State.report_scanResult (r : CmdResult) : (s.report r).scanResult = s.scanResult := rfl
@[simp] theorem State.report_name (r : CmdResult) : (s.report r).name = s.name := rfl
@[simp] theorem State.report_compareLatch (r : CmdResult) : (s.report r).compareLatch = s.compareLatch := rfl
@[simp] theorem State.report_tStart (r : CmdResult) : (s.report r).tStart = s.tStart := rfl
@[simp] theorem State.report_tMark (r : CmdResult) : (s.report r).tMark = s.tMark := rfl
@[simp] theorem State.report_now (r : CmdResult) : (s.report r).now = s.now := rfl
@[simp] theorem State.report_rxq (r : CmdResult) : (s.report r).rxq = s.rxq := rfl
@[simp] theorem State.report_txlog (r : CmdResult) : (s.report r).txlog = s.txlog := rfl
@[simp] theorem State.report_obslog (r : CmdResult) : (s.report r).obslog = s.obslog := rfl
@[simp] theorem State.report_events (r : CmdResult) : (s.report r).events = s.events := rfl

/-! ### `arrive` -/

@[simp] theorem State.arrive_seq (b : Byte) : (s.arrive b).seq = s.seq := rfl
@[simp] theorem State.arrive_ctx (b : Byte) : (s.arrive b).ctx = s.ctx := rfl
@[simp] theorem State.arrive_opsel (b : Byte) : (s.arrive b).opsel = s.opsel := rfl
@[simp] theorem State.arrive_bound (b : Byte) : (s.arrive b).bound = s.bound := rfl
@[simp] theorem State.arrive_obsEn (b : Byte) : (s.arrive b).obsEn = s.obsEn := rfl
@[simp] theorem State.arrive_result (b : Byte) : (s.arrive b).result = s.result := rfl
@[simp] theorem State.arrive_resultValid (b : Byte) : (s.arrive b).resultValid = s.resultValid := rfl
@[simp] theorem State.arrive_timeout (b : Byte) : (s.arrive b).timeout = s.timeout := rfl
@[simp] theorem State.arrive_param (b : Byte) : (s.arrive b).param = s.param := rfl
@[simp] theorem State.arrive_frame (b : Byte) : (s.arrive b).frame = s.frame := rfl
@[simp] theorem State.arrive_ack (b : Byte) : (s.arrive b).ack = s.ack := rfl
@[simp] theorem State.arrive_respBuf (b : Byte) : (s.arrive b).respBuf = s.respBuf := rfl
@[simp] theorem State.arrive_paySize (b : Byte) : (s.arrive b).paySize = s.paySize := rfl
@[simp] theorem State.arrive_payValid (b : Byte) : (s.arrive b).payValid = s.payValid := rfl
@[simp] theorem State.arrive_scanResult (b : Byte) : (s.arrive b).scanResult = s.scanResult := rfl
@[simp] theorem State.arrive_name (b : Byte) : (s.arrive b).name = s.name := rfl
@[simp] theorem State.arrive_compareLatch (b : Byte) : (s.arrive b).compareLatch = s.compareLatch := rfl
@[simp] theorem State.arrive_tStart (b : Byte) : (s.arrive b).tStart = s.tStart := rfl
@[simp] theorem State.arrive_tMark (b : Byte) : (s.arrive b).tMark = s.tMark := rfl
@[simp] theorem State.arrive_now (b : Byte) : (s.arrive b).now = s.now := rfl
@[simp] theorem State.arrive_rxq (b : Byte) : (s.arrive b).rxq = s.rxq ++ [b] := rfl
@[simp] theorem State.arrive_txlog (b : Byte) : (s.arrive b).txlog = s.txlog := rfl
@[simp] theorem State.arrive_obslog (b : Byte) : (s.arrive b).obslog = s.obslog := rfl
@[simp] theorem State.arrive_events (b : Byte) : (s.arrive b).events = s.events := rfl

/-! ### `tick` -/

@[simp] theorem State.tick_seq : (s.tick).seq = s.seq := rfl
@[simp] theorem State.tick_ctx : (s.tick).ctx = s.ctx := rfl
@[simp] theorem State.tick_opsel : (s.tick).opsel = s.opsel := rfl
@[simp] theorem State.tick_bound : (s.tick).bound = s.bound := rfl
@[simp] theorem State.tick_obsEn : (s.tick).obsEn = s.obsEn := rfl
@[simp] theorem State.tick_result : (s.tick).result = s.result := rfl
@[simp] theorem State.tick_resultValid : (s.tick).resultValid = s.resultValid := rfl
@[simp] theorem State.tick_timeout : (s.tick).timeout = s.timeout := rfl
@[simp] theorem State.tick_param : (s.tick).param = s.param := rfl
@[simp] theorem State.tick_frame : (s.tick).frame = s.frame := rfl
@[simp] theorem State.tick_ack : (s.tick).ack = s.ack := rfl
@[simp] theorem State.tick_respBuf : (s.tick).respBuf = s.respBuf := rfl
@[simp] theorem State.tick_paySize : (s.tick).paySize = s.paySize := rfl
@[simp] theorem State.tick_payValid : (s.tick).payValid = s.payValid := rfl
@[simp] theorem State.tick_scanResult : (s.tick).scanResult = s.scanResult := rfl
@[simp] theorem State.tick_name : (s.tick).name = s.name := rfl
@[simp] theorem State.tick_compareLatch : (s.tick).compareLatch = s.compareLatch := rfl
@[simp] theorem State.tick_tStart : (s.tick).tStart = s.tStart := rfl
@[simp] theorem State.tick_tMark : (s.tick).tMark = s.tMark := rfl
@[simp] theorem State.tick_now : (s.tick).now = s.now + 1#32 := rfl
@[simp] theorem State.tick_rxq : (s.tick).rxq = s.rxq := rfl
@[simp] theorem State.tick_txlog : (s.tick).txlog = s.txlog := rfl
@[simp] theorem State.tick_obslog : (s.tick).obslog = s.obslog := rfl
@[simp] theorem State.tick_events : (s.tick).events = s.events := rfl

/-! ### `setOpsel` -/

@[simp] theorem State.setOpsel_seq (c : OpCode) : (s.setOpsel c).seq = s.seq := rfl
@[simp] theorem State.setOpsel_ctx (c : OpCode) : (s.setOpsel c).ctx = s.ctx := rfl
@[simp] theorem State.setOpsel_opsel (c : OpCode) : (s.setOpsel c).opsel = c := rfl
@[simp] theorem State.setOpsel_bound (c : OpCode) : (s.setOpsel c).bound = s.bound := rfl
@[simp] theorem State.setOpsel_obsEn (c : OpCode) : (s.setOpsel c).obsEn = s.obsEn := rfl
@[simp] theorem State.setOpsel_result (c : OpCode) : (s.setOpsel c).result = s.result := rfl
@[simp] theorem State.setOpsel_resultValid (c : OpCode) : (s.setOpsel c).resultValid = s.resultValid := rfl
@[simp] theorem State.setOpsel_timeout (c : OpCode) : (s.setOpsel c).timeout = s.timeout := rfl
@[simp] theorem State.setOpsel_param (c : OpCode) : (s.setOpsel c).param = s.param := rfl
@[simp] theorem State.setOpsel_frame (c : OpCode) : (s.setOpsel c).frame = s.frame := rfl
@[simp] theorem State.setOpsel_ack (c : OpCode) : (s.setOpsel c).ack = s.ack := rfl
@[simp] theorem State.setOpsel_respBuf (c : OpCode) : (s.setOpsel c).respBuf = s.respBuf := rfl
@[simp] theorem State.setOpsel_paySize (c : OpCode) : (s.setOpsel c).paySize = s.paySize := rfl
@[simp] theorem State.setOpsel_payValid (c : OpCode) : (s.setOpsel c).payValid = s.payValid := rfl
@[simp] theorem State.setOpsel_scanResult (c : OpCode) : (s.setOpsel c).scanResult = s.scanResult := rfl
@[simp] theorem State.setOpsel_name (c : OpCode) : (s.setOpsel c).name = s.name := rfl
@[simp] theorem State.setOpsel_compareLatch (c : OpCode) : (s.setOpsel c).compareLatch = s.compareLatch := rfl
@[simp] theorem State.setOpsel_tStart (c : OpCode) : (s.setOpsel c).tStart = s.tStart := rfl
@[simp] theorem State.setOpsel_tMark (c : OpCode) : (s.setOpsel c).tMark = s.tMark := rfl
@[simp] theorem State.setOpsel_now (c : OpCode) : (s.setOpsel c).now = s.now := rfl
@[simp] theorem State.setOpsel_rxq (c : OpCode) : (s.setOpsel c).rxq = s.rxq := rfl
@[simp] theorem State.setOpsel_txlog (c : OpCode) : (s.setOpsel c).txlog = s.txlog := rfl
@[simp] theorem State.setOpsel_obslog (c : OpCode) : (s.setOpsel c).obslog = s.obslog := rfl
@[simp] theorem State.setOpsel_events (c : OpCode) : (s.setOpsel c).events = s.events := rfl

/-! ### `setParam` -/

@[simp] theorem State.setParam_seq (v : Byte) : (s.setParam v).seq = s.seq := rfl
@[simp] theorem State.setParam_ctx (v : Byte) : (s.setParam v).ctx = s.ctx := rfl
@[simp] theorem State.setParam_opsel (v : Byte) : (s.setParam v).opsel = s.opsel := rfl
@[simp] theorem State.setParam_bound (v : Byte) : (s.setParam v).bound = s.bound := rfl
@[simp] theorem State.setParam_obsEn (v : Byte) : (s.setParam v).obsEn = s.obsEn := rfl
@[simp] theorem State.setParam_result (v : Byte) : (s.setParam v).result = s.result := rfl
@[simp] theorem State.setParam_resultValid (v : Byte) : (s.setParam v).resultValid = s.resultValid := rfl
@[simp] theorem State.setParam_timeout (v : Byte) : (s.setParam v).timeout = s.timeout := rfl
@[simp] theorem State.setParam_param (v : Byte) : (s.setParam v).param = v := rfl
@[simp] theorem State.setParam_frame (v : Byte) : (s.setParam v).frame = s.frame := rfl
@[simp] theorem State.setParam_ack (v : Byte) : (s.setParam v).ack = s.ack := rfl
@[simp] theorem State.setParam_respBuf (v : Byte) : (s.setParam v).respBuf = s.respBuf := rfl
@[simp] theorem State.setParam_paySize (v : Byte) : (s.setParam v).paySize = s.paySize := rfl
@[simp] theorem State.setParam_payValid (v : Byte) : (s.setParam v).payValid = s.payValid := rfl
@[simp] theorem State.setParam_scanResult (v : Byte) : (s.setParam v).scanResult = s.scanResult := rfl
@[simp] theorem State.setParam_name (v : Byte) : (s.setParam v).name = s.name := rfl
@[simp] theorem State.setParam_compareLatch (v : Byte) : (s.setParam v).compareLatch = s.compareLatch := rfl
@[simp] theorem State.setParam_tStart (v : Byte) : (s.setParam v).tStart = s.tStart := rfl
@[simp] theorem State.setParam_tMark (v : Byte) : (s.setParam v).tMark = s.tMark := rfl
@[simp] theorem State.setParam_now (v : Byte) : (s.setParam v).now = s.now := rfl
@[simp] theorem State.setParam_rxq (v : Byte) : (s.setParam v).rxq = s.rxq := rfl
@[simp] theorem State.setParam_txlog (v : Byte) : (s.setParam v).txlog = s.txlog := rfl
@[simp] theorem State.setParam_obslog (v : Byte) : (s.setParam v).obslog = s.obslog := rfl
@[simp] theorem State.setParam_events (v : Byte) : (s.setParam v).events = s.events := rfl

/-! ### `setCtrlBits` -/

@[simp] theorem State.setCtrlBits_seq (b o : Bool) : (s.setCtrlBits b o).seq = s.seq := rfl
@[simp] theorem State.setCtrlBits_ctx (b o : Bool) : (s.setCtrlBits b o).ctx = s.ctx := rfl
@[simp] theorem State.setCtrlBits_opsel (b o : Bool) : (s.setCtrlBits b o).opsel = s.opsel := rfl
@[simp] theorem State.setCtrlBits_bound (b o : Bool) : (s.setCtrlBits b o).bound = b := rfl
@[simp] theorem State.setCtrlBits_obsEn (b o : Bool) : (s.setCtrlBits b o).obsEn = o := rfl
@[simp] theorem State.setCtrlBits_result (b o : Bool) : (s.setCtrlBits b o).result = s.result := rfl
@[simp] theorem State.setCtrlBits_resultValid (b o : Bool) : (s.setCtrlBits b o).resultValid = s.resultValid := rfl
@[simp] theorem State.setCtrlBits_timeout (b o : Bool) : (s.setCtrlBits b o).timeout = s.timeout := rfl
@[simp] theorem State.setCtrlBits_param (b o : Bool) : (s.setCtrlBits b o).param = s.param := rfl
@[simp] theorem State.setCtrlBits_frame (b o : Bool) : (s.setCtrlBits b o).frame = s.frame := rfl
@[simp] theorem State.setCtrlBits_ack (b o : Bool) : (s.setCtrlBits b o).ack = s.ack := rfl
@[simp] theorem State.setCtrlBits_respBuf (b o : Bool) : (s.setCtrlBits b o).respBuf = s.respBuf := rfl
@[simp] theorem State.setCtrlBits_paySize (b o : Bool) : (s.setCtrlBits b o).paySize = s.paySize := rfl
@[simp] theorem State.setCtrlBits_payValid (b o : Bool) : (s.setCtrlBits b o).payValid = s.payValid := rfl
@[simp] theorem State.setCtrlBits_scanResult (b o : Bool) : (s.setCtrlBits b o).scanResult = s.scanResult := rfl
@[simp] theorem State.setCtrlBits_name (b o : Bool) : (s.setCtrlBits b o).name = s.name := rfl
@[simp] theorem State.setCtrlBits_compareLatch (b o : Bool) : (s.setCtrlBits b o).compareLatch = s.compareLatch := rfl
@[simp] theorem State.setCtrlBits_tStart (b o : Bool) : (s.setCtrlBits b o).tStart = s.tStart := rfl
@[simp] theorem State.setCtrlBits_tMark (b o : Bool) : (s.setCtrlBits b o).tMark = s.tMark := rfl
@[simp] theorem State.setCtrlBits_now (b o : Bool) : (s.setCtrlBits b o).now = s.now := rfl
@[simp] theorem State.setCtrlBits_rxq (b o : Bool) : (s.setCtrlBits b o).rxq = s.rxq := rfl
@[simp] theorem State.setCtrlBits_txlog (b o : Bool) : (s.setCtrlBits b o).txlog = s.txlog := rfl
@[simp] theorem State.setCtrlBits_obslog (b o : Bool) : (s.setCtrlBits b o).obslog = s.obslog := rfl
@[simp] theorem State.setCtrlBits_events (b o : Bool) : (s.setCtrlBits b o).events = s.events := rfl

/-! ### `setName` -/

@[simp] theorem State.setName_seq (n : Bytes) : (s.setName n).seq = s.seq := rfl
@[simp] theorem State.setName_ctx (n : Bytes) : (s.setName n).ctx = s.ctx := rfl
@[simp] theorem State.setName_opsel (n : Bytes) : (s.setName n).opsel = s.opsel := rfl
@[simp] theorem State.setName_bound (n : Bytes) : (s.setName n).bound = s.bound := rfl
@[simp] theorem State.setName_obsEn (n : Bytes) : (s.setName n).obsEn = s.obsEn := rfl
@[simp] theorem State.setName_result (n : Bytes) : (s.setName n).result = s.result := rfl
@[simp] theorem State.setName_resultValid (n : Bytes) : (s.setName n).resultValid = s.resultValid := rfl
@[simp] theorem State.setName_timeout (n : Bytes) : (s.setName n).timeout = s.timeout := rfl
@[simp] theorem State.setName_param (n : Bytes) : (s.setName n).param = s.param := rfl
@[simp] theorem State.setName_frame (n : Bytes) : (s.setName n).frame = s.frame := rfl
@[simp] theorem State.setName_ack (n : Bytes) : (s.setName n).ack = s.ack := rfl
@[simp] theorem State.setName_respBuf (n : Bytes) : (s.setName n).respBuf = s.respBuf := rfl
@[simp] theorem State.setName_paySize (n : Bytes) : (s.setName n).paySize = s.paySize := rfl
@[simp] theorem State.setName_payValid (n : Bytes) : (s.setName n).payValid = s.payValid := rfl
@[simp] theorem State.setName_scanResult (n : Bytes) : (s.setName n).scanResult = s.scanResult := rfl
@[simp] theorem State.setName_name (n : Bytes) : (s.setName n).name = n := rfl
@[simp] theorem State.setName_compareLatch (n : Bytes) : (s.setName n).compareLatch = s.compareLatch := rfl
@[simp] theorem State.setName_tStart (n : Bytes) : (s.setName n).tStart = s.tStart := rfl
@[simp] theorem State.setName_tMark (n : Bytes) : (s.setName n).tMark = s.tMark := rfl
@[simp] theorem State.setName_now (n : Bytes) : (s.setName n).now = s.now := rfl
@[simp] theorem State.setName_rxq (n : Bytes) : (s.setName n).rxq = s.rxq := rfl
@[simp] theorem State.setName_txlog (n : Bytes) : (s.setName n).txlog = s.txlog := rfl
@[simp] theorem State.setName_obslog (n : Bytes) : (s.setName n).obslog = s.obslog := rfl
@[simp] theorem State.setName_events (n : Bytes) : (s.setName n).events = s.events := rfl

/-! ### `setScan` -/

@[simp] theorem State.setScan_seq (r : Bytes) : (s.setScan r).seq = s.seq := rfl
@[simp] theorem State.setScan_ctx (r : Bytes) : (s.setScan r).ctx = s.ctx := rfl
@[simp] theorem State.setScan_opsel (r : Bytes) : (s.setScan r).opsel = s.opsel := rfl
@[simp] theorem State.setScan_bound (r : Bytes) : (s.setScan r).bound = s.bound := rfl
@[simp] theorem State.setScan_obsEn (r : Bytes) : (s.setScan r).obsEn = s.obsEn := rfl
@[simp] theorem State.setScan_result (r : Bytes) : (s.setScan r).result = s.result := rfl
@[simp] theorem State.setScan_resultValid (r : Bytes) : (s.setScan r).resultValid = s.resultValid := rfl
@[simp] theorem State.setScan_timeout (r : Bytes) : (s.setScan r).timeout = s.timeout := rfl
@[simp] theorem State.setScan_param (r : Bytes) : (s.setScan r).param = s.param := rfl
@[simp] theorem State.setScan_frame (r : Bytes) : (s.setScan r).frame = s.frame := rfl
@[simp] theorem State.setScan_ack (r : Bytes) : (s.setScan r).ack = s.ack := rfl
@[simp] theorem State.setScan_respBuf (r : Bytes) : (s.setScan r).respBuf = s.respBuf := rfl
@[simp] theorem State.setScan_paySize (r : Bytes) : (s.setScan r).paySize = s.paySize := rfl
@[simp] theorem State.setScan_payValid (r : Bytes) : (s.setScan r).payValid = s.payValid := rfl
@[simp] theorem State.setScan_scanResult (r : Bytes) : (s.setScan r).scanResult = r := rfl
@[simp] theorem State.setScan_name (r : Bytes) : (s.setScan r).name = s.name := rfl
@[simp] theorem State.setScan_compareLatch (r : Bytes) : (s.setScan r).compareLatch = s.compareLatch := rfl
@[simp] theorem State.setScan_tStart (r : Bytes) : (s.setScan r).tStart = s.tStart := rfl
@[simp] theorem State.setScan_tMark (r : Bytes) : (s.setScan r).tMark = s.tMark := rfl
@[simp] theorem State.setScan_now (r : Bytes) : (s.setScan r).now = s.now := rfl
@[simp] theorem State.setScan_rxq (r : Bytes) : (s.setScan r).rxq = s.rxq := rfl
@[simp] theorem State.setScan_txlog (r : Bytes) : (s.setScan r).txlog = s.txlog := rfl
@[simp] theorem State.setScan_obslog (r : Bytes) : (s.setScan r).obslog = s.obslog := rfl
@[simp] theorem State.setScan_events (r : Bytes) : (s.setScan r).events = s.events := rfl

/-! ### `clearResp` -/

@[simp] theorem State.clearResp_seq : (s.clearResp).seq = s.seq := rfl
@[simp] theorem State.clearResp_ctx : (s.clearResp).ctx = s.ctx := rfl
@[simp] theorem State.clearResp_opsel : (s.clearResp).opsel = s.opsel := rfl
@[simp] theorem State.clearResp_bound : (s.clearResp).bound = s.bound := rfl
@[simp] theorem State.clearResp_obsEn : (s.clearResp).obsEn = s.obsEn := rfl
@[simp] theorem State.clearResp_result : (s.clearResp).result = s.result := rfl
@[simp] theorem State.clearResp_resultValid : (s.clearResp).resultValid = s.resultValid := rfl
@[simp] theorem State.clearResp_timeout : (s.clearResp).timeout = s.timeout := rfl
@[simp] theorem State.clearResp_param : (s.clearResp).param = s.param := rfl
@[simp] theorem State.clearResp_frame : (s.clearResp).frame = s.frame := rfl
@[simp] theorem State.clearResp_ack : (s.clearResp).ack = s.ack := rfl
@[simp] theorem State.clearResp_respBuf : (s.clearResp).respBuf = [] := rfl
@[simp] theorem State.clearResp_paySize : (s.clearResp).paySize = s.paySize := rfl
@[simp] theorem State.clearResp_payValid : (s.clearResp).payValid = s.payValid := rfl
@[simp] theorem State.clearResp_scanResult : (s.clearResp).scanResult = s.scanResult := rfl
@[simp] theorem State.clearResp_name : (s.clearResp).name = s.name := rfl
@[simp] theorem State.clearResp_compareLatch : (s.clearResp).compareLatch = s.compareLatch := rfl
@[simp] theorem State.clearResp_tStart : (s.clearResp).tStart = s.tStart := rfl
@[simp] theorem State.clearResp_tMark : (s.clearResp).tMark = s.tMark := rfl
@[simp] theorem State.clearResp_now : (s.clearResp).now = s.now := rfl
@[simp] theorem State.clearResp_rxq : (s.clearResp).rxq = s.rxq := rfl
@[simp] theorem State.clearResp_txlog : (s.clearResp).txlog = s.txlog := rfl
@[simp] theorem State.clearResp_obslog : (s.clearResp).obslog = s.obslog := rfl
@[simp] theorem State.clearResp_events : (s.clearResp).events = s.events := rfl

/-! ### `clearInfo` -/

@[simp] theorem State.clearInfo_seq : (s.clearInfo).seq = s.seq := rfl
@[simp] theorem State.clearInfo_ctx : (s.clearInfo).ctx = s.ctx := rfl
@[simp] theorem State.clearInfo_opsel : (s.clearInfo).opsel = s.opsel := rfl
@[simp] theorem State.clearInfo_bound : (s.clearInfo).bound = s.bound := rfl
@[simp] theorem State.clearInfo_obsEn : (s.clearInfo).obsEn = s.obsEn := rfl
@[simp] theorem State.clearInfo_result : (s.clearInfo).result = s.result := rfl
@[simp] theorem State.clearInfo_resultValid : (s.clearInfo).resultValid = s.resultValid := rfl
@[simp] theorem State.clearInfo_timeout : (s.clearInfo).timeout = s.timeout := rfl
@[simp] theorem State.clearInfo_param : (s.clearInfo).param = s.param := rfl
@[simp] theorem State.clearInfo_frame : (s.clearInfo).frame = s.frame := rfl
@[simp] theorem State.clearInfo_ack : (s.clearInfo).ack = s.ack := rfl
@[simp] theorem State.clearInfo_respBuf : (s.clearInfo).respBuf = [] := rfl
@[simp] theorem State.clearInfo_paySize : (s.clearInfo).paySize = 0#16 := rfl
@[simp] theorem State.clearInfo_payValid : (s.clearInfo).payValid = false := rfl
@[simp] theorem State.clearInfo_scanResult : (s.clearInfo).scanResult = s.scanResult := rfl
@[simp] theorem State.clearInfo_name : (s.clearInfo).name = s.name := rfl
@[simp] theorem State.clearInfo_compareLatch : (s.clearInfo).compareLatch = s.compareLatch := rfl
@[simp] theorem State.clearInfo_tStart : (s.clearInfo).tStart = s.tStart := rfl
@[simp] theorem State.clearInfo_tMark : (s.clearInfo).tMark = s.tMark := rfl
@[simp] theorem State.clearInfo_now : (s.clearInfo).now = s.now := rfl
@[simp] theorem State.clearInfo_rxq : (s.clearInfo).rxq = s.rxq := rfl
@[simp] theorem State.clearInfo_txlog : (s.clearInfo).txlog = s.txlog := rfl
@[simp] theorem State.clearInfo_obslog : (s.clearInfo).obslog = s.obslog := rfl
@[simp] theorem State.clearInfo_events : (s.clearInfo).events = s.events := rfl

/-! ### `startWindow` -/

@[simp] theorem State.startWindow_seq : (s.startWindow).seq = s.seq := rfl
@[simp] theorem State.startWindow_ctx : (s.startWindow).ctx = s.ctx := rfl
@[simp] theorem State.startWindow_opsel : (s.startWindow).opsel = s.opsel := rfl
@[simp] theorem State.startWindow_bound : (s.startWindow).bound = s.bound := rfl
@[simp] theorem State.startWindow_obsEn : (s.startWindow).obsEn = s.obsEn := rfl
@[simp] theorem State.startWindow_result : (s.startWindow).result = s.result := rfl
@[simp] theorem State.startWindow_resultValid : (s.startWindow).resultValid = s.resultValid := rfl
@[simp] theorem State.startWindow_timeout : (s.startWindow).timeout = s.timeout := rfl
@[simp] theorem State.startWindow_param : (s.startWindow).param = s.param := rfl
@[simp] theorem State.startWindow_frame : (s.startWindow).frame = s.frame := rfl
@[simp] theorem State.startWindow_ack : (s.startWindow).ack = s.ack := rfl
@[simp] theorem State.startWindow_respBuf : (s.startWindow).respBuf = s.respBuf := rfl
@[simp] theorem State.startWindow_paySize : (s.startWindow).paySize = s.paySize := rfl
@[simp] theorem State.startWindow_payValid : (s.startWindow).payValid = s.payValid := rfl
@[simp] theorem State.startWindow_scanResult : (s.startWindow).scanResult = s.scanResult := rfl
@[simp] theorem State.startWindow_name : (s.startWindow).name = s.name := rfl
@[simp] theorem State.startWindow_compareLatch : (s.startWindow).compareLatch = s.compareLatch := rfl
@[simp] theorem State.startWindow_tStart : (s.startWindow).tStart = s.now := rfl
@[simp] theorem State.startWindow_tMark : (s.startWindow).tMark = s.tMark := rfl
@[simp] theorem State.startWindow_now : (s.startWindow).now = s.now := rfl
@[simp] theorem State.startWindow_rxq : (s.startWindow).rxq = s.rxq := rfl
@[simp] theorem State.startWindow_txlog : (s.startWindow).txlog = s.txlog := rfl
@[simp] theorem State.startWindow_obslog : (s.startWindow).obslog = s.obslog := rfl
@[simp] theorem State.startWindow_events : (s.startWindow).events = s.events := rfl

/-! ### `withEvents` -/

@[simp] theorem State.withEvents_seq (es : List Event) : (s.withEvents es).seq = s.seq := rfl
@[simp] theorem State.withEvents_ctx (es : List Event) : (s.withEvents es).ctx = s.ctx := rfl
@[simp] theorem State.withEvents_opsel (es : List Event) : (s.withEvents es).opsel = s.opsel := rfl
@[simp] theorem State.withEvents_bound (es : List Event) : (s.withEvents es).bound = s.bound := rfl
@[simp] theorem State.withEvents_obsEn (es : List Event) : (s.withEvents es).obsEn = s.obsEn := rfl
@[simp] theorem State.withEvents_result (es : List Event) : (s.withEvents es).result = s.result := rfl
@[simp] theorem State.withEvents_resultValid (es : List Event) : (s.withEvents es).resultValid = s.resultValid := rfl
@[simp] theorem State.withEvents_timeout (es : List Event) : (s.withEvents es).timeout = s.timeout := rfl
@[simp] theorem State.withEvents_param (es : List Event) : (s.withEvents es).param = s.param := rfl
@[simp] theorem State.withEvents_frame (es : List Event) : (s.withEvents es).frame = s.frame := rfl
@[simp] theorem State.withEvents_ack (es : List Event) : (s.withEvents es).ack = s.ack := rfl
@[simp] theorem State.withEvents_respBuf (es : List Event) : (s.withEvents es).respBuf = s.respBuf := rfl
@[simp] theorem State.withEvents_paySize (es : List Event) : (s.withEvents es).paySize = s.paySize := rfl
@[simp] theorem State.withEvents_payValid (es : List Event) : (s.withEvents es).payValid = s.payValid := rfl
@[simp] theorem State.withEvents_scanResult (es : List Event) : (s.withEvents es).scanResult = s.scanResult := rfl
@[simp] theorem State.withEvents_name (es : List Event) : (s.withEvents es).name = s.name := rfl
@[simp] theorem State.withEvents_compareLatch (es : List Event) : (s.withEvents es).compareLatch = s.compareLatch := rfl
@[simp] theorem State.withEvents_tStart (es : List Event) : (s.withEvents es).tStart = s.tStart := rfl
@[simp] theorem State.withEvents_tMark (es : List Event) : (s.withEvents es).tMark = s.tMark := rfl
@[simp] theorem State.withEvents_now (es : List Event) : (s.withEvents es).now = s.now := rfl
@[simp] theorem State.withEvents_rxq (es : List Event) : (s.withEvents es).rxq = s.rxq := rfl
@[simp] theorem State.withEvents_txlog (es : List Event) : (s.withEvents es).txlog = s.txlog := rfl
@[simp] theorem State.withEvents_obslog (es : List Event) : (s.withEvents es).obslog = s.obslog := rfl
@[simp] theorem State.withEvents_events (es : List Event) : (s.withEvents es).events = es := rfl

/-! ### `loadCommand` -/

@[simp] theorem State.loadCommand_seq (f a : Bytes) (d : Millis) : (s.loadCommand f a d).seq = s.seq := rfl
@[simp] theorem State.loadCommand_ctx (f a : Bytes) (d : Millis) : (s.loadCommand f a d).ctx = s.ctx := rfl
@[simp] theorem State.loadCommand_opsel (f a : Bytes) (d : Millis) : (s.loadCommand f a d).opsel = s.opsel := rfl
@[simp] theorem State.loadCommand_bound (f a : Bytes) (d : Millis) : (s.loadCommand f a d).bound = s.bound := rfl
@[simp] theorem State.loadCommand_obsEn (f a : Bytes) (d : Millis) : (s.loadCommand f a d).obsEn = s.obsEn := rfl
@[simp] theorem State.loadCommand_result (f a : Bytes) (d : Millis) : (s.loadCommand f a d).result = s.result := rfl
@[simp] theorem State.loadCommand_resultValid (f a : Bytes) (d : Millis) : (s.loadCommand f a d).resultValid = s.resultValid := rfl
@[simp] theorem State.loadCommand_timeout (f a : Bytes) (d : Millis) : (s.loadCommand f a d).timeout = d := rfl
@[simp] theorem State.loadCommand_param (f a : Bytes) (d : Millis) : (s.loadCommand f a d).param = s.param := rfl
@[simp] theorem State.loadCommand_frame (f a : Bytes) (d : Millis) : (s.loadCommand f a d).frame = f := rfl
@[simp] theorem State.loadCommand_ack (f a : Bytes) (d : Millis) : (s.loadCommand f a d).ack = a := rfl
@[simp] theorem State.loadCommand_respBuf (f a : Bytes) (d : Millis) : (s.loadCommand f a d).respBuf = s.respBuf := rfl
@[simp] theorem State.loadCommand_paySize (f a : Bytes) (d : Millis) : (s.loadCommand f a d).paySize = s.paySize := rfl
@[simp] theorem State.loadCommand_payValid (f a : Bytes) (d : Millis) : (s.loadCommand f a d).payValid = s.payValid := rfl
@[simp] theorem State.loadCommand_scanResult (f a : Bytes) (d : Millis) : (s.loadCommand f a d).scanResult = s.scanResult := rfl
@[simp] theorem State.loadCommand_name (f a : Bytes) (d : Millis) : (s.loadCommand f a d).name = s.name := rfl
@[simp] theorem State.loadCommand_compareLatch (f a : Bytes) (d : Millis) : (s.loadCommand f a d).compareLatch = s.compareLatch := rfl
@[simp] theorem State.loadCommand_tStart (f a : Bytes) (d : Millis) : (s.loadCommand f a d).tStart = s.tStart := rfl
@[simp] theorem State.loadCommand_tMark (f a : Bytes) (d : Millis) : (s.loadCommand f a d).tMark = s.tMark := rfl
@[simp] theorem State.loadCommand_now (f a : Bytes) (d : Millis) : (s.loadCommand f a d).now = s.now := rfl
@[simp] theorem State.loadCommand_rxq (f a : Bytes) (d : Millis) : (s.loadCommand f a d).rxq = s.rxq := rfl
@[simp] theorem State.loadCommand_txlog (f a : Bytes) (d : Millis) : (s.loadCommand f a d).txlog = s.txlog := rfl
@[simp] theorem State.loadCommand_obslog (f a : Bytes) (d : Millis) : (s.loadCommand f a d).obslog = s.obslog := rfl
@[simp] theorem State.loadCommand_events (f a : Bytes) (d : Millis) : (s.loadCommand f a d).events = s.events := rfl

/-! ### `latchAck` -/

@[simp] theorem State.latchAck_seq : (s.latchAck).seq = s.seq := rfl
@[simp] theorem State.latchAck_ctx : (s.latchAck).ctx = s.ctx := rfl
@[simp] theorem State.latchAck_opsel : (s.latchAck).opsel = s.opsel := rfl
@[simp] theorem State.latchAck_bound : (s.latchAck).bound = s.bound := rfl
@[simp] theorem State.latchAck_obsEn : (s.latchAck).obsEn = s.obsEn := rfl
@[simp] theorem State.latchAck_result : (s.latchAck).result = s.result := rfl
@[simp] theorem State.latchAck_resultValid : (s.latchAck).resultValid = s.resultValid := rfl
@[simp] theorem State.latchAck_timeout : (s.latchAck).timeout = s.timeout := rfl
@[simp] theorem State.latchAck_param : (s.latchAck).param = s.param := rfl
@[simp] theorem State.latchAck_frame : (s.latchAck).frame = s.frame := rfl
@[simp] theorem State.latchAck_ack : (s.latchAck).ack = s.ack := rfl
@[simp] theorem State.latchAck_respBuf : (s.latchAck).respBuf = s.respBuf := rfl
@[simp] theorem State.latchAck_paySize : (s.latchAck).paySize = s.paySize := rfl
@[simp] theorem State.latchAck_payValid : (s.latchAck).payValid = s.payValid := rfl
@[simp] theorem State.latchAck_scanResult : (s.latchAck).scanResult = s.scanResult := rfl
@[simp] theorem State.latchAck_name : (s.latchAck).name = s.name := rfl
@[simp] theorem State.latchAck_compareLatch : (s.latchAck).compareLatch = s.rxq.take s.ack.length := rfl
@[simp] theorem State.latchAck_tStart : (s.latchAck).tStart = s.tStart := rfl
@[simp] theorem State.latchAck_tMark : (s.latchAck).tMark = s.tMark := rfl
@[simp] theorem State.latchAck_now : (s.latchAck).now = s.now := rfl
@[simp] theorem State.latchAck_rxq : (s.latchAck).rxq = s.rxq.drop s.ack.length := rfl
@[simp] theorem State.latchAck_txlog : (s.latchAck).txlog = s.txlog := rfl
@[simp] theorem State.latchAck_obslog : (s.latchAck).obslog = s.obslog := rfl
@[simp] theorem State.latchAck_events : (s.latchAck).events = s.events := rfl

/-! ### `extractPayload` -/

@[simp] theorem State.extractPayload_seq : (s.extractPayload).seq = s.seq := rfl
@[simp] theorem State.extractPayload_ctx : (s.extractPayload).ctx = s.ctx := rfl
@[simp] theorem State.extractPayload_opsel : (s.extractPayload).opsel = s.opsel := rfl
@[simp] theorem State.extractPayload_bound : (s.extractPayload).bound = s.bound := rfl
@[simp] theorem State.extractPayload_obsEn : (s.extractPayload).obsEn = s.obsEn := rfl
@[simp] theorem State.extractPayload_result : (s.extractPayload).result = s.result := rfl
@[simp] theorem State.extractPayload_resultValid : (s.extractPayload).resultValid = s.resultValid := rfl
@[simp] theorem State.extractPayload_timeout : (s.extractPayload).timeout = s.timeout := rfl
@[simp] theorem State.extractPayload_param : (s.extractPayload).param = s.param := rfl
@[simp] theorem State.extractPayload_frame : (s.extractPayload).frame = s.frame := rfl
@[simp] theorem State.extractPayload_ack : (s.extractPayload).ack = s.ack := rfl
@[simp] theorem State.extractPayload_respBuf : (s.extractPayload).respBuf = s.respBuf := rfl
@[simp] theorem State.extractPayload_paySize : (s.extractPayload).paySize = (payloadOf s.respBuf).1 := rfl
@[simp] theorem State.extractPayload_payValid : (s.extractPayload).payValid = (payloadOf s.respBuf).2 := rfl
@[simp] theorem State.extractPayload_scanResult : (s.extractPayload).scanResult = s.scanResult := rfl
@[simp] theorem State.extractPayload_name : (s.extractPayload).name = s.name := rfl
@[simp] theorem State.extractPayload_compareLatch : (s.extractPayload).compareLatch = s.compareLatch := rfl
@[simp] theorem State.extractPayload_tStart : (s.extractPayload).tStart = s.tStart := rfl
@[simp] theorem State.extractPayload_tMark : (s.extractPayload).tMark = s.tMark := rfl
@[simp] theorem State.extractPayload_now : (s.extractPayload).now = s.now := rfl
@[simp] theorem State.extractPayload_rxq : (s.extractPayload).rxq = s.rxq := rfl
@[simp] theorem State.extractPayload_txlog : (s.extractPayload).txlog = s.txlog := rfl
@[simp] theorem State.extractPayload_obslog : (s.extractPayload).obslog = s.obslog := rfl
@[simp] theorem State.extractPayload_events : (s.extractPayload).events = s.events := rfl

/-! ### `readBurst` -/

@[simp] theorem State.readBurst_seq : (s.readBurst).seq = s.seq := rfl
@[simp] theorem State.readBurst_ctx : (s.readBurst).ctx = s.ctx := rfl
@[simp] theorem State.readBurst_opsel : (s.readBurst).opsel = s.opsel := rfl
@[simp] theorem State.readBurst_bound : (s.readBurst).bound = s.bound := rfl
@[simp] theorem State.readBurst_obsEn : (s.readBurst).obsEn = s.obsEn := rfl
@[simp] theorem State.readBurst_result : (s.readBurst).result = s.result := rfl
@[simp] theorem State.readBurst_resultValid : (s.readBurst).resultValid = s.resultValid := rfl
@[simp] theorem State.readBurst_timeout : (s.readBurst).timeout = s.timeout := rfl
@[simp] theorem State.readBurst_param : (s.readBurst).param = s.param := rfl
@[simp] theorem State.readBurst_frame : (s.readBurst).frame = s.frame := rfl
@[simp] theorem State.readBurst_ack : (s.readBurst).ack = s.ack := rfl
@[simp] theorem State.readBurst_respBuf : (s.readBurst).respBuf = s.rxq.take s.rxq.length := rfl
@[simp] theorem State.readBurst_paySize : (s.readBurst).paySize = s.paySize := rfl
@[simp] theorem State.readBurst_payValid : (s.readBurst).payValid = s.payValid := rfl
@[simp] theorem State.readBurst_scanResult : (s.readBurst).scanResult = s.scanResult := rfl
@[simp] theorem State.readBurst_name : (s.readBurst).name = s.name := rfl
@[simp] theorem State.readBurst_compareLatch : (s.readBurst).compareLatch = s.compareLatch := rfl
@[simp] theorem State.readBurst_tStart : (s.readBurst).tStart = s.tStart := rfl
@[simp] theorem State.readBurst_tMark : (s.readBurst).tMark = s.tMark := rfl
@[simp] theorem State.readBurst_now : (s.readBurst).now = s.now := rfl
@[simp] theorem State.readBurst_rxq : (s.readBurst).rxq = s.rxq.drop s.rxq.length := rfl
@[simp] theorem State.readBurst_txlog : (s.readBurst).txlog = s.txlog := rfl
@[simp] theorem State.readBurst_obslog : (s.readBurst).obslog = s.obslog := rfl
@[simp] theorem State.readBurst_events : (s.readBurst).events = s.events := rfl

/-! ### `beginWait` -/

@[simp] theorem State.beginWait_seq (c : Ctx) : (s.beginWait c).seq = s.seq := rfl
@[simp] theorem State.beginWait_ctx (c : Ctx) : (s.beginWait c).ctx = c := rfl
@[simp] theorem State.beginWait_opsel (c : Ctx) : (s.beginWait c).opsel = s.opsel := rfl
@[simp] theorem State.beginWait_bound (c : Ctx) : (s.beginWait c).bound = s.bound := rfl
@[simp] theorem State.beginWait_obsEn (c : Ctx) : (s.beginWait c).obsEn = s.obsEn := rfl
@[simp] theorem State.beginWait_result (c : Ctx) : (s.beginWait c).result = s.result := rfl
@[simp] theorem State.beginWait_resultValid (c : Ctx) : (s.beginWait c).resultValid = s.resultValid := rfl
@[simp] theorem State.beginWait_timeout (c : Ctx) : (s.beginWait c).timeout = s.timeout := rfl
@[simp] theorem State.beginWait_param (c : Ctx) : (s.beginWait c).param = s.param := rfl
@[simp] theorem State.beginWait_frame (c : Ctx) : (s.beginWait c).frame = s.frame := rfl
@[simp] theorem State.beginWait_ack (c : Ctx) : (s.beginWait c).ack = s.ack := rfl
@[simp] theorem State.beginWait_respBuf (c : Ctx) : (s.beginWait c).respBuf = [] := rfl
@[simp] theorem State.beginWait_paySize (c : Ctx) : (s.beginWait c).paySize = s.paySize := rfl
@[simp] theorem State.beginWait_payValid (c : Ctx) : (s.beginWait c).payValid = s.payValid := rfl
@[simp] theorem State.beginWait_scanResult (c : Ctx) : (s.beginWait c).scanResult = s.scanResult := rfl
@[simp] theorem State.beginWait_name (c : Ctx) : (s.beginWait c).name = s.name := rfl
@[simp] theorem State.beginWait_compareLatch (c : Ctx) : (s.beginWait c).compareLatch = s.compareLatch := rfl
@[simp] theorem State.beginWait_tStart (c : Ctx) : (s.beginWait c).tStart = s.now := rfl
@[simp] theorem State.beginWait_tMark (c : Ctx) : (s.beginWait c).tMark = s.tMark := rfl
@[simp] theorem State.beginWait_now (c : Ctx) : (s.beginWait c).now = s.now := rfl
@[simp] theorem State.beginWait_rxq (c : Ctx) : (s.beginWait c).rxq = s.rxq := rfl
@[simp] theorem State.beginWait_txlog (c : Ctx) : (s.beginWait c).txlog = s.txlog := rfl
@[simp] theorem State.beginWait_obslog (c : Ctx) : (s.beginWait c).obslog = s.obslog := rfl
@[simp] theorem State.beginWait_events (c : Ctx) : (s.beginWait c).events = s.events := rfl

end Sys2Proof.Machine
end

