-- ==== Sys2Proof/Laws/Ops.lean ====
section
/-! SUPPORT. What each shared operation can do, said once: one lemma per operation, which later
proofs cite instead of unfolding it. -/

namespace Sys2Proof.Machine

/-- Bytes that arrive go to the tail of the queue, in order (R44, R54). -/
theorem State.arriveAll_eq (s : State) (bs : Bytes) :
    s.arriveAll bs = { s with rxq := s.rxq ++ bs } := by
  induction bs generalizing s with
  | nil => simp [State.arriveAll]
  | cons b bs ih => simp [State.arriveAll, ih, State.arrive]

@[simp] theorem State.busy_eq_true (s : State) : s.busy = true ↔ s.seq ≠ .idle := by
  simp [State.busy]

theorem State.wakeEnabled_iff (s : State) :
    s.wakeEnabled = true ↔ s.seq ≠ .idle ∧ dwellMs s.seq ≤ s.elapsed s.tMark := by
  simp [State.wakeEnabled]

theorem State.elapsed_now (s : State) : s.elapsed s.now = 0 := by
  simp [State.elapsed]

/-! ### The host's port -/

/-- An issue goes on exactly from `IDLE` (R114). -/
theorem issue_next_iff {code : OpCode} {seg : State → State} {s t : State} :
    issue code seg s = .next t ↔ s.seq = .idle ∧ t = seg (s.setOpsel code) := by
  unfold issue
  split <;> simp_all [eq_comm]

theorem issue_idle {code : OpCode} {seg : State → State} {s : State} (h : s.seq = .idle) :
    issue code seg s = .next (seg (s.setOpsel code)) := by
  simp [issue, h]

theorem issue_busy {code : OpCode} {seg : State → State} {s : State} (h : s.seq ≠ .idle) :
    issue code seg s = .refused .hostWriteWhileBusy := by
  simp [issue, h]

theorem hostWrite_next_iff {w : HostWrite} {s t : State} :
    hostWrite w s = .next t ↔ s.seq = .idle ∧ t = s.applyWrite w := by
  unfold hostWrite
  split <;> simp_all [eq_comm]

theorem hostReadStep_next {r : HostReg} {s t : State} (h : hostReadStep r s = .next t) : t = s := by
  unfold hostReadStep at h
  split at h <;> simp_all

/-! ### Execute -/

/-- Execute's issue segment ends in one of three ways (R75). -/
theorem executeIssue_cases (s : State) :
    ((s.bound = false ∨ s.frame = []) ∧ executeIssue s = s.report .invalidParam) ∨
    (s.bound = true ∧ s.frame ≠ [] ∧ s.ack = [] ∧
      executeIssue s = (s.rxDrain.txWrite s.frame).report .success) ∨
    (s.bound = true ∧ s.frame ≠ [] ∧ s.ack ≠ [] ∧
      executeIssue s = (s.rxDrain.txWrite s.frame).sleep .exSettle) := by
  unfold executeIssue
  by_cases h : s.bound = false ∨ s.frame = []
  · exact .inl ⟨h, by simp [h]⟩
  · have hb : s.bound = true := by simpa using fun hb => h (.inl hb)
    have hf : s.frame ≠ [] := fun hf => h (.inr hf)
    by_cases ha : s.ack = []
    · exact .inr (.inl ⟨hb, hf, ha, by simp [hb, hf, ha]⟩)
    · exact .inr (.inr ⟨hb, hf, ha, by simp [hb, hf, ha]⟩)

/-- Execute's sample ends in one of four ways (R77). -/
theorem executeSample_cases (s : State) :
    (s.ack.length ≤ s.rxq.length ∧ s.rxq.take s.ack.length = s.ack ∧
      executeSample s = s.latchAck.report .success) ∨
    (s.ack.length ≤ s.rxq.length ∧ s.rxq.take s.ack.length ≠ s.ack ∧
      executeSample s = s.latchAck.report .ackMismatch) ∨
    (s.rxq.length < s.ack.length ∧ s.timeout.toNat ≤ s.elapsed s.tStart ∧
      executeSample s = s.report .timeout) ∨
    (s.rxq.length < s.ack.length ∧ s.elapsed s.tStart < s.timeout.toNat ∧
      executeSample s = s.sleep .exWait) := by
  unfold executeSample
  by_cases h : s.ack.length ≤ s.rxq.length
  · by_cases hc : s.rxq.take s.ack.length = s.ack
    · exact .inl ⟨h, hc, by simp [State.rxAvail, h, State.compareAck, hc]⟩
    · exact .inr (.inl ⟨h, hc, by simp [State.rxAvail, h, State.compareAck, hc]⟩)
  · by_cases ht : s.timeout.toNat ≤ s.elapsed s.tStart
    · exact .inr (.inr (.inl ⟨by omega, ht, by simp [State.rxAvail, h, ht]⟩))
    · exact .inr (.inr (.inr ⟨by omega, by omega, by simp [State.rxAvail, h, ht]⟩))

/-! ### ExtractPayload and WaitResponse -/

/-- ExtractPayload on a buffer with a whole header (R87). -/
theorem payloadOf_header (b0 b1 b2 hi lo : Byte) (body : Bytes) :
    payloadOf (b0 :: b1 :: b2 :: hi :: lo :: body) =
      if declaredLength hi lo ≤ body.length
      then (BitVec.ofNat 16 (declaredLength hi lo), true) else (0#16, false) := rfl

/-- The length two bytes declare fits 16 bits (R46, R65). -/
theorem declaredLength_lt (hi lo : Byte) : declaredLength hi lo < 65536 := by
  unfold declaredLength; omega

/-- The size is 0 when the buffer is not valid (R24, R88). -/
theorem payloadOf_invalid {bs : Bytes} (h : (payloadOf bs).2 = false) : (payloadOf bs).1 = 0#16 := by
  revert h
  unfold payloadOf
  split
  · split <;> simp
  · simp

/-- The end of a wait, by whom it was for (R84, R91). -/
theorem waitFinish_cases (s : State) :
    (s.ctx = .host ∧ waitFinish s = s.complete) ∨
    (s.ctx = .getInfo ∧ waitFinish s = s.extractPayload.complete) := by
  unfold waitFinish
  split <;> simp_all

/-- WaitResponse's sample ends in one of three ways (R84). -/
theorem waitSample_cases (s : State) :
    (s.rxq ≠ [] ∧ waitSample s = waitFinish s.readBurst) ∨
    (s.rxq = [] ∧ s.waitTimeout ≤ s.elapsed s.tStart ∧ waitSample s = waitFinish s) ∨
    (s.rxq = [] ∧ s.elapsed s.tStart < s.waitTimeout ∧ waitSample s = s.sleep .wrWait) := by
  unfold waitSample
  by_cases h : s.rxq = []
  · by_cases ht : s.waitTimeout ≤ s.elapsed s.tStart
    · exact .inr (.inl ⟨h, ht, by simp [State.rxAvail, h, ht]⟩)
    · exact .inr (.inr ⟨h, by omega, by simp [State.rxAvail, h, ht]⟩)
  · exact .inl ⟨h, by simp [State.rxAvail, List.length_pos_iff.2 h]⟩

/-- `WAIT_RESPONSE`'s issue segment, unbound or bound (R83, R95). -/
theorem waitIssue_cases (s : State) :
    (s.bound = false ∧ waitIssue s = s.clearResp.complete) ∨
    (s.bound = true ∧ waitIssue s = waitSample (s.beginWait .host)) := by
  unfold waitIssue
  cases h : s.bound <;> simp

/-- GetInfo's issue segment, unbound or bound (R89, R95). -/
theorem getInfoIssue_cases (s : State) :
    (s.bound = false ∧ getInfoIssue s = s.clearInfo.complete) ∨
    (s.bound = true ∧ getInfoIssue s =
      (s.rxDrain.txWrite (getInfosFrame s.param)).sleep .giSettle) := by
  unfold getInfoIssue
  cases h : s.bound <;> simp

/-! ### Poll -/

/-- Poll takes the whole queue as the scan result, or nothing (R107). -/
theorem pollScan_cases (s : State) :
    (s.bound = true ∧ s.rxq ≠ [] ∧ pollScan s = s.readBurst.setScan s.rxq) ∨
    ((s.bound = false ∨ s.rxq = []) ∧ pollScan s = s.setScan []) := by
  unfold pollScan
  cases hb : s.bound <;> by_cases hq : s.rxq = [] <;>
    simp [hq, State.rxAvail, State.rxHead, List.length_pos_iff]

/-- The observer is told exactly a non-empty result, and only when it is registered (R111). -/
theorem pollNotify_cases (s : State) :
    (s.obsEn = true ∧ s.scanResult ≠ [] ∧ pollNotify s = s.notify s.scanResult) ∨
    ((s.obsEn = false ∨ s.scanResult = []) ∧ pollNotify s = s) := by
  unfold pollNotify
  cases ho : s.obsEn <;> by_cases hr : s.scanResult = [] <;> simp [hr, List.length_pos_iff]

/-! ### Wakes and steps -/

/-- The clock's turn: an enabled wake, else the tick (R76). -/
theorem clockTurn_cases (p q : State) :
    (p.wakeEnabled = true ∧ clockTurn p q = wake p) ∨
    (p.wakeEnabled = false ∧ clockTurn p q = q.tick) := by
  unfold clockTurn
  cases h : p.wakeEnabled <;> simp

/-- A wake that may be due (R14). -/
theorem wakeIfDue_cases (s : State) :
    (s.wakeEnabled = true ∧ wakeIfDue s = wake s) ∨ (s.wakeEnabled = false ∧ wakeIfDue s = s) := by
  unfold wakeIfDue
  cases h : s.wakeEnabled <;> simp

/-- Everything a step can do, by the next action. -/
theorem step_next_cases {s t : State} (h : step s = .next t) :
    (s.events = [] ∧ t = wakeIfDue s) ∨
    (∃ rest, s.events = .tick :: rest ∧ t = clockTurn s (s.withEvents rest)) ∨
    (∃ b rest, s.events = .arrive b :: rest ∧ t = (s.withEvents rest).arrive b) ∨
    (∃ rest, s.events = .wake :: rest ∧ t = wakeIfDue (s.withEvents rest)) ∨
    (∃ bs rest i, s.events = .instr bs :: rest ∧ decode bs = .instr i ∧
      exec i (s.withEvents rest) = .next t) ∨
    (∃ w rest, s.events = .write w :: rest ∧ s.seq = .idle ∧
      t = (s.withEvents rest).applyWrite w) ∨
    (∃ r rest, s.events = .read r :: rest ∧ t = s.withEvents rest) ∨
    (∃ rest, s.events = .reset :: rest ∧ t = (s.withEvents rest).assertReset) := by
  unfold step at h
  split at h
  next he => simp at h; exact .inl ⟨he, h.symm⟩
  next rest he => simp at h; exact .inr (.inl ⟨rest, he, h.symm⟩)
  next b rest he => simp at h; exact .inr (.inr (.inl ⟨b, rest, he, h.symm⟩))
  next rest he => simp at h; exact .inr (.inr (.inr (.inl ⟨rest, he, h.symm⟩)))
  next bs rest he =>
    unfold runBytes at h
    split at h
    next i hd => exact .inr (.inr (.inr (.inr (.inl ⟨bs, rest, i, he, hd, h⟩))))
    next => simp at h
  next w rest he =>
    obtain ⟨hi, ht⟩ := hostWrite_next_iff.1 h
    exact .inr (.inr (.inr (.inr (.inr (.inl ⟨w, rest, he, by simpa using hi, ht⟩)))))
  next r rest he =>
    exact .inr (.inr (.inr (.inr (.inr (.inr (.inl ⟨r, rest, he, hostReadStep_next h⟩))))))
  next rest he =>
    simp at h
    exact .inr (.inr (.inr (.inr (.inr (.inr (.inr ⟨rest, he, h.symm⟩))))))

end Sys2Proof.Machine
end

