-- ==== Sys2Proof/Laws/PerInstr.lean ====
section
/-! SUPPORT. Statements made instruction by instruction. `EncodeLength`: an encoding of one byte is
a row the host issues; every other row has a wire format of three bytes or more, so the decoder can
tell a select code from a wire format by the length alone. -/

namespace Sys2Proof.Laws.EncodeLength

/-- The length of an encoding tells its port. -/
def Statement (i : Instr) : Prop :=
  ((encode i).length = 1 ∧ i.isHost = true) ∨ 3 ≤ (encode i).length

theorem execute : Statement .execute := .inl ⟨rfl, rfl⟩
theorem waitResponse : Statement .waitResponse := .inl ⟨rfl, rfl⟩
theorem extractPayload : Statement .extractPayload := .inl ⟨rfl, rfl⟩
theorem getInfo : Statement .getInfo := .inl ⟨rfl, rfl⟩
theorem poll : Statement .poll := .inl ⟨rfl, rfl⟩
theorem resultName : Statement .resultName := .inl ⟨rfl, rfl⟩
theorem setCtrl : Statement .setCtrl := .inl ⟨rfl, rfl⟩
theorem startDecode : Statement .startDecode := .inl ⟨rfl, rfl⟩
theorem stopDecode : Statement .stopDecode := .inl ⟨rfl, rfl⟩
theorem setTriggerMode : Statement .setTriggerMode := .inl ⟨rfl, rfl⟩
theorem setFillLightBrightness : Statement .setFillLightBrightness := .inl ⟨rfl, rfl⟩
theorem getFirmwareVersion : Statement .getFirmwareVersion := .inl ⟨rfl, rfl⟩
theorem getSoftwareVersion : Statement .getSoftwareVersion := .inl ⟨rfl, rfl⟩
theorem reserved0 : Statement .reserved0 := .inl ⟨rfl, rfl⟩
theorem reservedE : Statement .reservedE := .inl ⟨rfl, rfl⟩
theorem reservedF : Statement .reservedF := .inl ⟨rfl, rfl⟩
theorem startDecodeFrame : Statement .startDecodeFrame := .inr (Nat.le_refl 3)
theorem stopDecodeFrame : Statement .stopDecodeFrame := .inr (Nat.le_refl 3)
theorem setTriggerModeFrame (m : Byte) : Statement (.setTriggerModeFrame m) :=
  .inr (by simp [encode])
theorem setFillLightBrightnessFrame (b : Byte) : Statement (.setFillLightBrightnessFrame b) :=
  .inr (by simp [encode])
theorem getInfosFrame (id : Byte) : Statement (.getInfosFrame id) := .inr (by simp [encode])
theorem stopDecodeAck : Statement .stopDecodeAck := .inr (by simp [encode])
theorem setTriggerModeAck (m : Byte) : Statement (.setTriggerModeAck m) := .inr (by simp [encode])
theorem setFillLightBrightnessAck (b : Byte) : Statement (.setFillLightBrightnessAck b) :=
  .inr (by simp [encode])
theorem responseEnvelope (h0 h1 h2 hi lo : Byte) (body : Bytes) :
    Statement (.responseEnvelope h0 h1 h2 hi lo body) := .inr (by simp [encode])

end Sys2Proof.Laws.EncodeLength
end

