-- ==== Sys2Proof/Tests/Slice0.lean ====
section
/-! SUPPORT. The model's own tests. Expected results come from the spec: words from the tables of
30_encoding (R63, R67, R68) and spec/opcode_table.json, effects from the vectors of
95_test_vectors.md, named in each comment. Then, for every statement with hypotheses, a theorem
`witness_<Name>` that meets them. -/

namespace Sys2Proof.Tests

open Sys2Proof.Machine

/-! ### Decoding: one word for every constructor -/

theorem test_decode_execute : decode [0x01#8] = .instr .execute := by decide
theorem test_decode_waitResponse : decode [0x02#8] = .instr .waitResponse := by decide
theorem test_decode_extractPayload : decode [0x03#8] = .instr .extractPayload := by decide
theorem test_decode_getInfo : decode [0x04#8] = .instr .getInfo := by decide
theorem test_decode_poll : decode [0x05#8] = .instr .poll := by decide
theorem test_decode_resultName : decode [0x06#8] = .instr .resultName := by decide
theorem test_decode_setCtrl : decode [0x07#8] = .instr .setCtrl := by decide
theorem test_decode_startDecode : decode [0x08#8] = .instr .startDecode := by decide
theorem test_decode_stopDecode : decode [0x09#8] = .instr .stopDecode := by decide
theorem test_decode_setTriggerMode : decode [0x0A#8] = .instr .setTriggerMode := by decide
theorem test_decode_setFillLightBrightness :
    decode [0x0B#8] = .instr .setFillLightBrightness := by decide
theorem test_decode_getFirmwareVersion : decode [0x0C#8] = .instr .getFirmwareVersion := by decide
theorem test_decode_getSoftwareVersion : decode [0x0D#8] = .instr .getSoftwareVersion := by decide
theorem test_decode_reserved0 : decode [0x00#8] = .instr .reserved0 := by decide
theorem test_decode_reservedE : decode [0x0E#8] = .instr .reservedE := by decide
theorem test_decode_reservedF : decode [0x0F#8] = .instr .reservedF := by decide
theorem test_decode_startDecodeFrame :
    decode [0x32#8, 0x75#8, 0x01#8] = .instr .startDecodeFrame := by decide
theorem test_decode_stopDecodeFrame :
    decode [0x32#8, 0x75#8, 0x02#8] = .instr .stopDecodeFrame := by decide
theorem test_decode_setTriggerModeFrame :
    decode [0x21#8, 0x61#8, 0x41#8, 0xFF#8] = .instr (.setTriggerModeFrame 0xFF#8) := by decide
theorem test_decode_setFillLightBrightnessFrame :
    decode [0x21#8, 0x62#8, 0x48#8, 0x64#8] = .instr (.setFillLightBrightnessFrame 0x64#8) := by
  decide
theorem test_decode_getInfosFrame :
    decode [0x43#8, 0x02#8, 0xC1#8] = .instr (.getInfosFrame 0xC1#8) := by decide
theorem test_decode_stopDecodeAck :
    decode [0x33#8, 0x75#8, 0x02#8, 0x00#8, 0x00#8] = .instr .stopDecodeAck := by decide
theorem test_decode_setTriggerModeAck :
    decode [0x22#8, 0x61#8, 0x41#8, 0x03#8, 0x00#8] = .instr (.setTriggerModeAck 0x03#8) := by
  decide
theorem test_decode_setFillLightBrightnessAck :
    decode [0x22#8, 0x62#8, 0x48#8, 0x96#8, 0x00#8] =
      .instr (.setFillLightBrightnessAck 0x96#8) := by decide
/-- The source's example (S6). -/
theorem test_decode_responseEnvelope :
    decode [0x22#8, 0x43#8, 0x02#8, 0x00#8, 0x03#8, 0x41#8, 0x42#8, 0x43#8] =
      .instr (.responseEnvelope 0x22#8 0x43#8 0x02#8 0x00#8 0x03#8 [0x41#8, 0x42#8, 0x43#8]) := by
  decide

/-- One byte short of the declared payload (X3). -/
theorem test_decode_short_envelope :
    decode [0x22#8, 0x43#8, 0x02#8, 0x00#8, 0x03#8, 0x41#8, 0x42#8] =
      .rejected .shortEnvelope := by decide
theorem test_decode_wide_select : decode [0x11#8] = .rejected .selectCodeTooWide := by decide
theorem test_decode_unknown_frame :
    decode [0x32#8, 0x75#8, 0x03#8] = .rejected .unknownFrame := by decide

/-- The table's numbers: a wire row's byte 0 is the most significant byte. -/
theorem test_table_words :
    decodeTableWord 8 0x5 = some .poll ∧
    decodeTableWord 24 0x327501 = some .startDecodeFrame ∧
    decodeTableWord 32 0x21614107 = some (.setTriggerModeFrame 0x07#8) ∧
    decodeTableWord 40 0x3375020000 = some .stopDecodeAck ∧
    decodeTableWord 40 0x2261410000 = some (.setTriggerModeAck 0x00#8) ∧
    decodeTableWord 40 0 =
      some (.responseEnvelope 0x00#8 0x00#8 0x00#8 0x00#8 0x00#8 []) := by decide

/-! ### Ill-formed terms -/

theorem test_illFormed_brightness : wellFormed (.setFillLightBrightnessFrame 0x65#8) = false := by
  decide
theorem test_illFormed_short_body :
    wellFormed (.responseEnvelope 0x22#8 0x43#8 0x02#8 0x00#8 0x01#8 []) = false := by decide
theorem test_illFormed_reads_as_ack :
    wellFormed (.responseEnvelope 0x33#8 0x75#8 0x02#8 0x00#8 0x00#8 []) = false := by decide

/-! ### Effects -/

/-- Whether a meaning answers a next state with the property. -/
def nextHas (o : Result) (p : State → Bool) : Bool :=
  match o with
  | .next s => p s
  | _ => false

/-- The start state of the vectors: idle, bound, observed. -/
def bench : State :=
  { State.reset with bound := true, obsEn := true }

def hello : Bytes := [0x48#8, 0x45#8, 0x4C#8, 0x4C#8, 0x4F#8]

/-- S2, E3. -/
theorem test_execute_fire_and_forget :
    nextHas (exec .execute
      { bench with frame := [0x32#8, 0x75#8, 0x01#8], rxq := [0xAA#8, 0xBB#8] })
      (fun t => t.rxq = [] ∧ t.txlog = [[0x32#8, 0x75#8, 0x01#8]] ∧ t.result = .success ∧
        t.resultValid = true ∧ t.seq = .idle) = true := by decide
/-- E2. -/
theorem test_execute_empty_frame :
    nextHas (exec .execute { bench with rxq := [0xAA#8] })
      (fun t => t.rxq = [0xAA#8] ∧ t.txlog = [] ∧ t.result = .invalidParam) = true := by decide
/-- W1. -/
theorem test_wait_returns_waiting_bytes :
    nextHas (exec .waitResponse { bench with rxq := [0x48#8, 0x49#8] })
      (fun t => t.respBuf = [0x48#8, 0x49#8] ∧ t.rxq = [] ∧ t.seq = .idle) = true := by decide
/-- W7. -/
theorem test_wait_unbound :
    nextHas (exec .waitResponse { State.reset with respBuf := [0xAA#8], rxq := [0x48#8] })
      (fun t => t.respBuf = [] ∧ t.rxq = [0x48#8] ∧ t.seq = .idle) = true := by decide
/-- X11: the other byte order would have given 256. -/
theorem test_extract_big_endian :
    nextHas (exec .extractPayload
      { bench with respBuf := [0x22#8, 0x43#8, 0x02#8, 0x00#8, 0x01#8] ++ List.replicate 9 0x00#8 })
      (fun t => t.paySize = 1#16 ∧ t.payValid = true ∧ t.infoText = [0x00#8]) = true := by decide
/-- X12: 5 + L does not wrap. -/
theorem test_extract_no_wrap :
    nextHas (exec .extractPayload
      { bench with respBuf := [0x22#8, 0x43#8, 0x02#8, 0xFF#8, 0xFF#8] })
      (fun t => t.paySize = 0#16 ∧ t.payValid = false) = true := by decide
/-- T5, G9. -/
theorem test_getInfo_sends :
    nextHas (exec .getInfo { bench with rxq := [0x0D#8], now := 7#32 })
      (fun t => t.rxq = [] ∧ t.txlog = [[0x43#8, 0x02#8, 0x00#8]] ∧ t.seq = .giSettle ∧
        t.tMark = 7#32 ∧ t.resultValid = false) = true := by decide
/-- S8, P1. -/
theorem test_poll_nothing :
    nextHas (exec .poll
      { bench with scanResult := [0x4F#8, 0x4C#8, 0x44#8], respBuf := [0xAA#8] })
      (fun t => t.scanResult = [] ∧ t.respBuf = [0xAA#8] ∧ t.obslog = []) = true := by decide
/-- P5; its "unchanged" for `RESP_BUF` is log entry 20. -/
theorem test_poll_unbound :
    nextHas (exec .poll { State.reset with obsEn := true, rxq := [0x48#8], respBuf := [0xAA#8] })
      (fun t => t.scanResult = [] ∧ t.respBuf = [0xAA#8] ∧ t.rxq = [0x48#8] ∧ t.obslog = [] ∧
        t.seq = .idle) = true := by decide
/-- S9, P2. -/
theorem test_poll_hello :
    nextHas (exec .poll { bench with rxq := hello })
      (fun t => t.scanResult = hello ∧ t.respBuf = hello ∧ t.rxq = [] ∧ t.obslog = [hello]) =
      true := by decide
/-- RN5: bits 7 to 2 are ignored. -/
theorem test_resultName_ignores_high_bits :
    nextHas (exec .resultName { bench with param := 0x07#8 })
      (fun t => t.name = [0x41#8, 0x43#8, 0x4B#8, 0x5F#8, 0x4D#8, 0x49#8, 0x53#8, 0x4D#8, 0x41#8,
        0x54#8, 0x43#8, 0x48#8]) = true := by decide
/-- CT3. -/
theorem test_setCtrl_FE :
    nextHas (exec .setCtrl { State.reset with param := 0xFE#8 })
      (fun t => t.bound = false ∧ t.obsEn = true) = true := by decide
/-- F11: the unpolled scan is lost. -/
theorem test_startDecode_drains :
    nextHas (exec .startDecode { bench with rxq := hello })
      (fun t => t.rxq = [] ∧ t.result = .success ∧ t.timeout = 1000#32) = true := by decide
/-- F5. -/
theorem test_stopDecode_unbound :
    nextHas (exec .stopDecode State.reset)
      (fun t => t.result = .invalidParam ∧ t.frame = [0x32#8, 0x75#8, 0x02#8] ∧
        t.ack = [0x33#8, 0x75#8, 0x02#8, 0x00#8, 0x00#8] ∧ t.timeout = 150#32 ∧ t.txlog = []) =
      true := by decide
/-- F3c. -/
theorem test_setTriggerMode_FF :
    nextHas (exec .setTriggerMode { bench with param := 0xFF#8 })
      (fun t => t.txlog = [[0x21#8, 0x61#8, 0x41#8, 0xFF#8]] ∧ t.timeout = 200#32 ∧
        t.ack = [0x22#8, 0x61#8, 0x41#8, 0xFF#8, 0x00#8] ∧ t.seq = .exSettle) = true := by decide
/-- S7, F4e. -/
theorem test_fillLight_150 :
    nextHas (exec .setFillLightBrightness { bench with param := 0x96#8 })
      (fun t => t.txlog = [[0x21#8, 0x62#8, 0x48#8, 0x64#8]] ∧ t.param = 0x96#8 ∧
        t.ack = [0x22#8, 0x62#8, 0x48#8, 0x64#8, 0x00#8] ∧ t.timeout = 100#32) = true := by decide
/-- F4c: the upper bound itself is kept. -/
theorem test_fillLight_100 :
    nextHas (exec .setFillLightBrightness { bench with param := 0x64#8 })
      (fun t => t.frame = [0x21#8, 0x62#8, 0x48#8, 0x64#8]) = true := by decide
/-- T6. -/
theorem test_firmwareVersion :
    nextHas (exec .getFirmwareVersion bench)
      (fun t => t.param = 0xC1#8 ∧ t.txlog = [[0x43#8, 0x02#8, 0xC1#8]]) = true := by decide
/-- T7, G8. -/
theorem test_softwareVersion :
    nextHas (exec .getSoftwareVersion bench)
      (fun t => t.param = 0xC2#8 ∧ t.txlog = [[0x43#8, 0x02#8, 0xC2#8]]) = true := by decide
/-- CT5, CT6, CT7. -/
theorem test_reserved :
    nextHas (exec .reserved0 bench) (fun t => t.result = .invalidParam ∧ t.resultValid = true) ∧
    nextHas (exec .reservedE bench) (fun t => t.result = .invalidParam ∧ t.txlog = []) ∧
    nextHas (exec .reservedF bench) (fun t => t.result = .invalidParam ∧ t.seq = .idle) := by decide
/-- PRG5's host line, given by its frame. -/
theorem test_triggerMode_frame_row :
    nextHas (exec (.setTriggerModeFrame 0x02#8) bench)
      (fun t => t.param = 0x02#8 ∧ t.opsel = 0xA#4 ∧
        t.txlog = [[0x21#8, 0x61#8, 0x41#8, 0x02#8]]) = true := by decide
/-- W6's first arrival, whole. -/
theorem test_envelope_row_arrives :
    nextHas (exec (.responseEnvelope 0x22#8 0x43#8 0x02#8 0x00#8 0x00#8 []) bench)
      (fun t => t.rxq = [0x22#8, 0x43#8, 0x02#8, 0x00#8, 0x00#8]) = true := by decide

/-- stopDecode's Execute at the end of its settle delay, `tw` = 1000. -/
def stopSettled : State :=
  { bench with
    seq := .exSettle, frame := [0x32#8, 0x75#8, 0x02#8],
    ack := [0x33#8, 0x75#8, 0x02#8, 0x00#8, 0x00#8], timeout := 150#32,
    txlog := [[0x32#8, 0x75#8, 0x02#8]], tMark := 1000#32, now := 1100#32, events := [.wake] }

/-- E9: exactly `ACK_LEN` bytes are read. -/
theorem test_sample_success_residue :
    nextHas (step { stopSettled with
      rxq := [0x33#8, 0x75#8, 0x02#8, 0x00#8, 0x00#8, 0x0D#8, 0x0A#8] })
      (fun t => t.result = .success ∧ t.rxq = [0x0D#8, 0x0A#8] ∧ t.seq = .idle) = true := by decide
/-- E11: an unsolicited byte ahead of the ack. -/
theorem test_sample_mismatch :
    nextHas (step { stopSettled with
      rxq := [0x51#8, 0x33#8, 0x75#8, 0x02#8, 0x00#8, 0x00#8] })
      (fun t => t.result = .ackMismatch ∧ t.rxq = [0x00#8]) = true := by decide
/-- E15: the clock has wrapped; the last sample is at 0xBA. -/
theorem test_sample_timeout_across_wrap :
    nextHas (step { stopSettled with
      seq := .exWait, tStart := 0x24#32, tMark := 0xB5#32, now := 0xBA#32 })
      (fun t => t.result = .timeout ∧ t.seq = .idle) = true := by decide
/-- E15 again: the settle delay that began at 0xFFFFFFC0 ends at 0x24. -/
theorem test_settle_across_wrap :
    nextHas (step { stopSettled with tMark := 0xFFFFFFC0#32, now := 0x24#32 })
      (fun t => t.tStart = 0x24#32 ∧ t.seq = .exWait) = true := by decide

/-- GetInfo at the end of its settle delay, with the reply of G1. -/
def infoSettled : State :=
  { bench with
    seq := .giSettle, param := 0xC1#8, txlog := [[0x43#8, 0x02#8, 0xC1#8]],
    tMark := 2000#32, now := 2010#32, events := [.wake],
    rxq := [0x22#8, 0x43#8, 0x02#8, 0x00#8, 0x03#8, 0x41#8, 0x42#8, 0x43#8] }

/-- G1. -/
theorem test_getInfo_reply :
    nextHas (step infoSettled)
      (fun t => t.paySize = 3#16 ∧ t.payValid = true ∧ t.infoText = [0x41#8, 0x42#8, 0x43#8] ∧
        t.rxq = [] ∧ t.seq = .idle ∧ t.resultValid = false) = true := by decide

/-- A host's WaitResponse asleep, `t0` = 100, `W` = 50, at `t0 + 40` (W2). -/
def waitAsleep : State :=
  { bench with
    seq := .wrWait, timeout := 50#32, tStart := 100#32, tMark := 120#32, now := 140#32,
    events := [.wake] }

/-- W2. -/
theorem test_wait_reads_burst :
    nextHas (step { waitAsleep with rxq := [0x41#8, 0x42#8] })
      (fun t => t.respBuf = [0x41#8, 0x42#8] ∧ t.seq = .idle) = true := by decide
/-- W3: not before `t0 + 60`. -/
theorem test_wait_sleeps_on :
    nextHas (step waitAsleep) (fun t => t.seq = .wrWait ∧ t.tMark = 140#32) = true := by decide

/-- The word placed for the first step after reset is the one it runs (CT9). -/
theorem test_fetch_word_runs :
    nextHas (step (State.reset.withFetchWord 8 0x1))
      (fun t => t.result = .invalidParam ∧ t.resultValid = true ∧ t.events = []) = true := by decide

/-! ### Witnesses: states that meet the hypotheses of the statements -/

theorem witness_EncodedInstructionsDecodeBack :
    wellFormed (.responseEnvelope 0x22#8 0x43#8 0x02#8 0x00#8 0x01#8 [0x41#8]) = true := by decide
theorem witness_EncodedInstructionsDecodeBack_brightness :
    wellFormed (.setFillLightBrightnessFrame 0x64#8) = true := by decide
theorem witness_DecodedBytesEncodeBack : ∃ i, decode [0x22#8, 0x61#8, 0x41#8, 0x03#8, 0x00#8] =
    .instr i := ⟨_, rfl⟩
theorem witness_StepRunsTheDecodedInstruction :
    ({ bench with events := [.instr [0x09#8]] } : State).events = .instr [0x09#8] :: [] ∧
    decode [0x09#8] = .instr .stopDecode := by decide
theorem witness_StepRunsTheDecodedInstruction_rejected :
    ({ bench with events := [.instr [0x10#8]] } : State).events = .instr [0x10#8] :: [] ∧
    decode [0x10#8] = .rejected .selectCodeTooWide := by decide
/-- One millisecond before the wake is due. -/
theorem witness_TickWaitsForADueWake_tick :
    let s := { stopSettled with now := 1099#32, events := [.tick] }
    s.events = .tick :: [] ∧ (s.now - s.tMark).toNat < dwellMs s.seq := by decide
theorem witness_TickWaitsForADueWake_wake :
    let s := { stopSettled with events := [.tick] }
    s.events = .tick :: [] ∧ s.seq ≠ .idle ∧ dwellMs s.seq ≤ (s.now - s.tMark).toNat := by decide
/-- A wake due to the millisecond, with no action left. -/
theorem witness_DueWakeRunsWhateverCallsForIt :
    let s := { stopSettled with events := [] }
    s.events = [] ∧ s.seq ≠ .idle ∧ dwellMs s.seq = (s.now - s.tMark).toNat := by decide
theorem witness_NothingRunsByItself :
    let s := { stopSettled with now := 1099#32, events := [] }
    (s.now - s.tMark).toNat < dwellMs s.seq ∧ s.events = [] := by decide
theorem witness_NothingRunsByItself_wake :
    let s := { stopSettled with now := 1099#32 }
    (s.now - s.tMark).toNat < dwellMs s.seq ∧ s.events = .wake :: [] := by decide
theorem witness_ArrivalAppendsAByte :
    ({ bench with events := [.arrive 0x41#8] } : State).events = .arrive 0x41#8 :: [] := by decide
theorem witness_ElapsedCountsMillisecondsAcrossTheWrap : 2 ^ 32 - 1 < 2 ^ 32 := by decide
theorem witness_ResetInputStopsTheOperation :
    ({ stopSettled with events := [.reset] } : State).events = .reset :: [] := by decide
theorem witness_ExecuteWithoutAckSucceedsAtOnce :
    let s := { bench with frame := [0x01#8] }
    s.seq = .idle ∧ s.bound = true ∧ s.frame ≠ [] ∧ s.ack = [] := by decide
theorem witness_ExecuteWithAckStartsTheSettleDelay :
    let s := { bench with frame := [0x01#8], ack := [0x02#8] }
    s.seq = .idle ∧ s.bound = true ∧ s.frame ≠ [] ∧ s.ack ≠ [] := by decide
theorem witness_InvalidParamLeavesAllButResult_unbound :
    State.reset.seq = .idle ∧ State.reset.bound = false := by decide
theorem witness_InvalidParamLeavesAllButResult_empty :
    bench.seq = .idle ∧ bench.bound = true ∧ bench.frame = [] := by decide
/-- Exactly at the end of the settle delay, in each of the three branches. -/
theorem witness_SettleWakeTakesTheFirstSample :
    let s := stopSettled
    s.events = .wake :: [] ∧ s.seq = .exSettle ∧ 100 ≤ (s.now - s.tMark).toNat ∧
      ¬ s.ack.length ≤ s.rxq.length ∧ s.timeout ≠ 0#32 := by decide
theorem witness_SettleWakeTakesTheFirstSample_enough :
    let s := { stopSettled with rxq := [0x33#8, 0x75#8, 0x02#8, 0x00#8, 0x01#8] }
    s.events = .wake :: [] ∧ s.seq = .exSettle ∧ 100 ≤ (s.now - s.tMark).toNat ∧
      s.ack.length = s.rxq.length := by decide
theorem witness_SettleWakeTakesTheFirstSample_zero :
    let s := { stopSettled with timeout := 0#32 }
    s.events = .wake :: [] ∧ s.seq = .exSettle ∧ 100 ≤ (s.now - s.tMark).toNat ∧
      ¬ s.ack.length ≤ s.rxq.length ∧ s.timeout = 0#32 := by decide
/-- At the window's end to the millisecond, and one sample before it. -/
theorem witness_WaitWakeTakesTheNextSample :
    let s := { stopSettled with seq := .exWait, tStart := 1100#32, tMark := 1245#32, now := 1250#32 }
    s.events = .wake :: [] ∧ s.seq = .exWait ∧ (s.now - s.tMark).toNat = 5 ∧
      (s.now - s.tStart).toNat = s.timeout.toNat := by decide
theorem witness_WaitWakeTakesTheNextSample_sleeps :
    let s := { stopSettled with seq := .exWait, tStart := 1100#32, tMark := 1240#32, now := 1245#32 }
    s.events = .wake :: [] ∧ s.seq = .exWait ∧ (s.now - s.tMark).toNat = 5 ∧
      ¬ s.timeout.toNat ≤ (s.now - s.tStart).toNat := by decide
theorem witness_ExecuteLeavesTheBuffers_issue : ∃ t, exec .execute bench = .next t := ⟨_, rfl⟩
theorem witness_ExecuteLeavesTheBuffers_wake :
    stopSettled.awaitsAck ∧ stopSettled.events = .wake :: [] ∧ ∃ t, step stopSettled = .next t :=
  ⟨.inl rfl, rfl, _, rfl⟩
theorem witness_WaitResponseSamplesAtOnce :
    let s := { bench with timeout := 1#32 }
    s.seq = .idle ∧ s.bound = true ∧ s.rxq = [] ∧ s.timeout ≠ 0#32 := by decide
theorem witness_WaitResponseSamplesAtOnce_zero :
    let s := { bench with timeout := 0#32 }
    s.seq = .idle ∧ s.bound = true ∧ s.rxq = [] ∧ s.timeout = 0#32 := by decide
theorem witness_WaitResponseSamplesAtOnce_waiting :
    let s := { bench with rxq := [0x48#8] }
    s.seq = .idle ∧ s.bound = true ∧ s.rxq ≠ [] := by decide
theorem witness_HostWaitTakesTheNextSample :
    waitAsleep.events = .wake :: [] ∧ waitAsleep.seq = .wrWait ∧ waitAsleep.ctx = .host ∧
      (waitAsleep.now - waitAsleep.tMark).toNat = 20 := by decide
/-- A whole header one byte short of its payload, and the same with the payload whole. -/
theorem witness_ExtractPayloadValidatesTheLength :
    let s := { bench with respBuf := [0x22#8, 0x43#8, 0x02#8, 0x00#8, 0x01#8] }
    s.seq = .idle ∧ 5 = s.respBuf.length ∧ s.respBuf.length < 5 + 1 := by decide
theorem witness_ExtractPayloadValidatesTheLength_valid :
    let s := { bench with respBuf := [0x22#8, 0x43#8, 0x02#8, 0x00#8, 0x01#8, 0x41#8] }
    s.seq = .idle ∧ 5 ≤ s.respBuf.length ∧ 5 + 1 = s.respBuf.length := by decide
theorem witness_ExtractPayloadValidatesTheLength_short :
    ({ bench with respBuf := [0x22#8, 0x43#8, 0x02#8, 0x00#8] } : State).respBuf.length < 5 := by
  decide
theorem witness_EnvelopePayloadComesOutWhole :
    let s := { bench with respBuf := [0xFF#8, 0xFF#8, 0xFF#8, 0x00#8, 0x02#8, 0x58#8, 0x59#8, 0x0D#8] }
    s.seq = .idle ∧ [0x58#8, 0x59#8].length < 65536 ∧
      s.respBuf = [0xFF#8, 0xFF#8, 0xFF#8, BitVec.ofNat 8 ([0x58#8, 0x59#8].length / 256),
        BitVec.ofNat 8 ([0x58#8, 0x59#8].length % 256)] ++ [0x58#8, 0x59#8] ++ [0x0D#8] := by decide
/-- For the statements whose hypotheses are `IDLE` with a transport and `IDLE` without. -/
theorem witness_idle_bound : bench.seq = .idle ∧ bench.bound = true := by decide
theorem witness_idle_unbound : State.reset.seq = .idle ∧ State.reset.bound = false := by decide
theorem witness_InfoSettleWakeTakesTheFirstSample :
    infoSettled.events = .wake :: [] ∧ infoSettled.seq = .giSettle ∧
      (infoSettled.now - infoSettled.tMark).toNat = 10 := by decide
theorem witness_InfoSettleWakeTakesTheFirstSample_empty :
    let s := { infoSettled with rxq := [] }
    s.events = .wake :: [] ∧ s.seq = .giSettle ∧ (s.now - s.tMark).toNat = 10 ∧ s.rxq = [] := by
  decide
theorem witness_InfoWaitTakesTheNextSample :
    let s := { waitAsleep with ctx := .getInfo, tMark := 1080#32, now := 1100#32 }
    s.events = .wake :: [] ∧ s.seq = .wrWait ∧ s.ctx = .getInfo ∧
      (s.now - s.tMark).toNat = 20 ∧ (s.now - s.tStart).toNat = 1000 := by decide
theorem witness_FillLightBrightnessIsClamped :
    let s := { bench with param := 0x65#8 }
    s.seq = .idle ∧ s.bound = true ∧
      0x64#8 = (if s.param.toNat ≤ 100 then s.param else 100#8) := by decide
theorem witness_FrameRowsSendTheirFrames :
    bench.seq = .idle ∧ bench.bound = true ∧ (0x64#8).toNat ≤ 100 := by decide
theorem witness_FrameRowsSendTheirFrames_unbound :
    State.reset.seq = .idle ∧ State.reset.bound = false ∧ (0x64#8).toNat ≤ 100 := by decide
theorem witness_HostPortIsOpenOnlyWhenIdle :
    stopSettled.seq ≠ .idle ∧ bench.seq = .idle ∧ Instr.execute.isHost = true := by decide
theorem witness_RegisterWritesReachOneRegister :
    let s := { bench with events := [.write (.ack [0x55#8])] }
    s.seq = .idle ∧ s.events = .write (.ack [0x55#8]) :: [] := by decide
theorem witness_ReadsChangeNothing :
    let s := { stopSettled with events := [.read .status] }
    s.events = .read .status :: [] ∧ (s.seq = .idle ∨ HostReg.status = .status) := by decide
theorem witness_ReadsChangeNothing_refused :
    let s := { stopSettled with events := [.read .result] }
    s.events = .read .result :: [] ∧ s.seq ≠ .idle ∧ HostReg.result ≠ .status := by decide
theorem witness_StatusShowsItsThreeFlags : 3 ≤ 3 := by decide
theorem witness_IdleRegistersReadBack :
    bench.seq = .idle ∧ bench.resultValid = false ∧
      regOfNumber 11 = some .name := by decide
theorem witness_IdleRegistersReadBack_valid :
    let s := { bench with result := .timeout, resultValid := true }
    s.seq = .idle ∧ s.resultValid = true := by decide
theorem witness_OnlyPollTellsTheObserver :
    (∃ t, step stopSettled = .next t) ∧
    (∀ bs rest, stopSettled.events = .instr bs :: rest → decode bs ≠ .instr .poll) ∧
    (∀ rest, stopSettled.events ≠ .reset :: rest) :=
  ⟨⟨_, rfl⟩, by intro bs rest h; simp [stopSettled] at h, by intro rest h; simp [stopSettled] at h⟩
/-- A step that sends a burst. -/
theorem witness_BurstsAreSentOneAtATime :
    nextHas (step { bench with events := [.instr [0x08#8]] })
      (fun t => t.txlog ≠ bench.txlog) = true := by decide
/-- A step that reports a result. -/
theorem witness_OnlyExecutesReportAResult :
    (nextHas (step { stopSettled with timeout := 0#32 })
      (fun t => t.result ≠ stopSettled.result ∧ t.resultValid ≠ stopSettled.resultValid) = true) ∧
    (∀ rest, stopSettled.events ≠ .reset :: rest) :=
  ⟨by decide, by intro rest h; simp [stopSettled] at h⟩
/-- A step that writes the payload registers. -/
theorem witness_OnlyExtractionsWriteThePayload :
    (nextHas (step infoSettled) (fun t => t.paySize ≠ infoSettled.paySize) = true) ∧
    (∀ rest, infoSettled.events ≠ .reset :: rest) :=
  ⟨by decide, by intro rest h; simp [infoSettled] at h⟩
theorem witness_SequencerMovesAsListed :
    (∃ t, step stopSettled = .next t) ∧ (∀ rest, stopSettled.events ≠ .reset :: rest) :=
  ⟨⟨_, rfl⟩, by intro rest h; simp [stopSettled] at h⟩
theorem witness_UnboundBlockIsSilent :
    Instr.getInfo.isHost = true ∧ State.reset.bound = false ∧
      ∃ t, exec .getInfo State.reset = .next t := ⟨rfl, rfl, _, rfl⟩
theorem witness_WakesKeepOperandsAndHistories :
    stopSettled.events = .wake :: [] ∧ ∃ t, step stopSettled = .next t := ⟨rfl, _, rfl⟩
theorem witness_BytesLeaveFromTheHead :
    Instr.poll.isHost = true ∧ (∃ t, exec .poll bench = .next t) ∧
      infoSettled.events = .wake :: [] ∧ ∃ t, step infoSettled = .next t :=
  ⟨rfl, ⟨_, rfl⟩, rfl, _, rfl⟩
/-- A busy state in which the invariant holds, and its next step. -/
theorem witness_EveryStepKeepsTheBlockConsistent :
    stopSettled.Inv ∧ ∃ t, step stopSettled = .next t :=
  ⟨by constructor <;> simp [stopSettled, bench, State.reset, State.awaitsAck, State.inGetInfo,
        State.elapsed, dwellMs, Config.exSettleMs],
    _, rfl⟩
theorem witness_UnansweredExecuteTimesOutOnTime :
    let s := { stopSettled with tMark := 1100#32, timeout := 7#32, events := quiet 110 }
    s.seq = .exSettle ∧ s.tMark = s.now ∧ s.rxq.length < s.ack.length ∧
      s.events = quiet (100 + 5 * ((s.timeout.toNat + 4) / 5)) := by decide
/-- E4: the ack arrives at `tw + 40`. -/
theorem witness_AnsweredExecuteEndsAfterTheSettle :
    let s := { stopSettled with
      now := 1040#32, rxq := [0x33#8, 0x75#8, 0x02#8, 0x00#8, 0x00#8], events := quiet 60 }
    s.seq = .exSettle ∧ (s.now - s.tMark).toNat = 40 ∧ 40 ≤ 100 ∧ s.ack.length ≤ s.rxq.length ∧
      s.events = quiet (100 - 40) := by decide
/-- The last instant of the delay. -/
theorem witness_AnsweredExecuteEndsAfterTheSettle_last :
    let s := { stopSettled with
      rxq := [0x33#8, 0x75#8, 0x02#8, 0x00#8, 0x00#8], events := quiet 0 }
    s.seq = .exSettle ∧ (s.now - s.tMark).toNat = 100 ∧ s.ack.length ≤ s.rxq.length ∧
      s.events = quiet (100 - 100) := by decide
theorem witness_UnansweredWaitEndsOnTime :
    let s := { bench with timeout := 50#32, events := .instr [0x02#8] :: quiet 60 }
    s.seq = .idle ∧ s.bound = true ∧ s.rxq = [] ∧
      20 * ((s.timeout.toNat + 19) / 20) < 2 ^ 32 ∧
      s.events = .instr [0x02#8] :: quiet (20 * ((s.timeout.toNat + 19) / 20)) := by decide
theorem witness_UnansweredGetInfoEndsOnTime :
    let s := { bench with events := .instr [0x04#8] :: quiet 1010 }
    s.seq = .idle ∧ s.bound = true ∧ s.events = .instr [0x04#8] :: quiet 1010 := ⟨rfl, rfl, rfl⟩

end Sys2Proof.Tests
end

section
/-! PROOFS, family 10_state. What a wake, an instruction and a step can do, each said once, and what
each leaves unchanged: the layer that the settled statements below (and any later one about the
whole machine) are derived from. -/

namespace Sys2Proof.Machine

/-! ### When a wake is due -/

theorem State.wakeEnabled_eq_false_iff (s : State) :
    s.wakeEnabled = false ↔ s.seq = .idle ∨ (s.now - s.tMark).toNat < dwellMs s.seq := by
  rw [← Bool.not_eq_true, State.wakeEnabled_iff, State.elapsed, not_and_or, not_not, not_le]

/-! ### Which fields each operation of the engine and the poller can write -/

theorem executeSample_writes (s : State) : ∃ q l r v m k, executeSample s =
    { s with
      rxq := q, compareLatch := l, result := r, resultValid := v, tMark := m, seq := k } := by
  rcases executeSample_cases s with ⟨_, _, h⟩ | ⟨_, _, h⟩ | ⟨_, _, h⟩ | ⟨_, _, h⟩ <;>
    exact ⟨_, _, _, _, _, _, h⟩

theorem waitFinish_writes (s : State) : ∃ n v k, waitFinish s =
    { s with paySize := n, payValid := v, seq := k } := by
  rcases waitFinish_cases s with ⟨_, h⟩ | ⟨_, h⟩ <;> exact ⟨_, _, _, h⟩

theorem waitSample_writes (s : State) : ∃ q b n v m k, waitSample s =
    { s with rxq := q, respBuf := b, paySize := n, payValid := v, tMark := m, seq := k } := by
  rcases waitSample_cases s with ⟨_, h⟩ | ⟨_, _, h⟩ | ⟨_, _, h⟩
  · obtain ⟨n, v, k, hf⟩ := waitFinish_writes s.readBurst
    exact ⟨_, _, n, v, _, k, h.trans hf⟩
  · obtain ⟨n, v, k, hf⟩ := waitFinish_writes s
    exact ⟨_, _, n, v, _, k, h.trans hf⟩
  · exact ⟨_, _, _, _, _, _, h⟩

theorem executeIssue_writes (s : State) : ∃ q l r v m k, executeIssue s =
    { s with rxq := q, txlog := l, result := r, resultValid := v, tMark := m, seq := k } := by
  rcases executeIssue_cases s with ⟨_, h⟩ | ⟨_, _, _, h⟩ | ⟨_, _, _, h⟩ <;>
    exact ⟨_, _, _, _, _, _, h⟩

theorem waitIssue_writes (s : State) : ∃ q b n v m k t c, waitIssue s =
    { s with
      rxq := q, respBuf := b, paySize := n, payValid := v, tMark := m, seq := k, tStart := t,
      ctx := c } := by
  rcases waitIssue_cases s with ⟨_, h⟩ | ⟨_, h⟩ <;> rw [h]
  · exact ⟨_, _, _, _, _, _, _, _, rfl⟩
  · obtain ⟨q, b, n, v, m, k, hw⟩ := waitSample_writes (s.beginWait .host)
    exact ⟨q, b, n, v, m, k, _, _, hw⟩

theorem getInfoIssue_writes (s : State) : ∃ q l b n v m k, getInfoIssue s =
    { s with
      rxq := q, txlog := l, respBuf := b, paySize := n, payValid := v, tMark := m, seq := k } := by
  rcases getInfoIssue_cases s with ⟨_, h⟩ | ⟨_, h⟩ <;> exact ⟨_, _, _, _, _, _, _, h⟩

theorem pollScan_writes (s : State) : ∃ q b r, pollScan s =
    { s with rxq := q, respBuf := b, scanResult := r } := by
  rcases pollScan_cases s with ⟨_, _, h⟩ | ⟨_, h⟩ <;> exact ⟨_, _, _, h⟩

theorem pollNotify_writes (s : State) : ∃ o, pollNotify s = { s with obslog := o } := by
  rcases pollNotify_cases s with ⟨_, _, h⟩ | ⟨_, h⟩ <;> exact ⟨_, h⟩

theorem pollIssue_writes (s : State) : ∃ q b r o, pollIssue s =
    { s with rxq := q, respBuf := b, scanResult := r, obslog := o, seq := .idle } := by
  obtain ⟨q, b, r, hs⟩ := pollScan_writes s
  obtain ⟨o, hn⟩ := pollNotify_writes (pollScan s)
  exact ⟨q, b, r, o, by rw [pollIssue, hn, hs]; rfl⟩

/-! ### The wake of each dwelling state, and its frame -/

theorem wake_of_exSettle {s : State} (h : s.seq = .exSettle) :
    wake s = executeSample s.startWindow := by
  simp [wake, h, executeSettleWake]

theorem wake_of_exWait {s : State} (h : s.seq = .exWait) : wake s = executeSample s := by
  simp [wake, h]

theorem wake_of_giSettle {s : State} (h : s.seq = .giSettle) :
    wake s = waitSample (s.beginWait .getInfo) := by
  simp [wake, h, getInfoSettleWake]

theorem wake_of_wrWait {s : State} (h : s.seq = .wrWait) : wake s = waitSample s := by
  simp [wake, h]

theorem wake_of_idle {s : State} (h : s.seq = .idle) : wake s = s := by
  simp [wake, h]

/-- What no wake writes: the operands (R58), the control bits, the outputs of other operations, the
histories (R79), the clock and the agents' further actions. -/
structure WakeFrame (s t : State) : Prop where
  opsel : t.opsel = s.opsel
  bound : t.bound = s.bound
  obsEn : t.obsEn = s.obsEn
  timeout : t.timeout = s.timeout
  param : t.param = s.param
  frame : t.frame = s.frame
  ack : t.ack = s.ack
  scanResult : t.scanResult = s.scanResult
  name : t.name = s.name
  now : t.now = s.now
  txlog : t.txlog = s.txlog
  obslog : t.obslog = s.obslog
  events : t.events = s.events

theorem wake_frame (s : State) : WakeFrame s (wake s) := by
  cases hq : s.seq
  case idle => rw [wake_of_idle hq]; constructor <;> rfl
  case exSettle =>
    obtain ⟨_, _, _, _, _, _, h⟩ := executeSample_writes s.startWindow
    rw [wake_of_exSettle hq, h]; constructor <;> rfl
  case exWait =>
    obtain ⟨_, _, _, _, _, _, h⟩ := executeSample_writes s
    rw [wake_of_exWait hq, h]; constructor <;> rfl
  case giSettle =>
    obtain ⟨_, _, _, _, _, _, h⟩ := waitSample_writes (s.beginWait .getInfo)
    rw [wake_of_giSettle hq, h]; constructor <;> rfl
  case wrWait =>
    obtain ⟨_, _, _, _, _, _, h⟩ := waitSample_writes s
    rw [wake_of_wrWait hq, h]; constructor <;> rfl

theorem waitFinish_seq (s : State) : (waitFinish s).seq = .idle := by
  rcases waitFinish_cases s with ⟨_, h⟩ | ⟨_, h⟩ <;> rw [h] <;> rfl

theorem executeSample_idle_or_sleeps (s : State) :
    (executeSample s).seq = .idle ∨ (executeSample s).tMark = s.now := by
  rcases executeSample_cases s with ⟨_, _, h⟩ | ⟨_, _, h⟩ | ⟨_, _, h⟩ | ⟨_, _, h⟩ <;> simp [h]

theorem waitSample_idle_or_sleeps (s : State) :
    (waitSample s).seq = .idle ∨ (waitSample s).tMark = s.now := by
  rcases waitSample_cases s with ⟨_, h⟩ | ⟨_, _, h⟩ | ⟨_, _, h⟩ <;> simp [h, waitFinish_seq]

/-- A wake ends the operation or starts a new sleep from the present instant (R14). -/
theorem wake_idle_or_sleeps (s : State) : (wake s).seq = .idle ∨ (wake s).tMark = s.now := by
  cases h : s.seq
  case idle => exact .inl (by rw [wake_of_idle h, h])
  case exSettle => rw [wake_of_exSettle h]; exact executeSample_idle_or_sleeps s.startWindow
  case exWait => rw [wake_of_exWait h]; exact executeSample_idle_or_sleeps s
  case giSettle => rw [wake_of_giSettle h]; exact waitSample_idle_or_sleeps (s.beginWait .getInfo)
  case wrWait => rw [wake_of_wrWait h]; exact waitSample_idle_or_sleeps s

/-! ### Steps, by the next action -/

theorem step_of_nil {s : State} (he : s.events = []) : step s = .next (wakeIfDue s) := by
  simp only [step, he]

theorem step_of_tick {s : State} {rest : List Event} (he : s.events = .tick :: rest) :
    step s = .next (clockTurn s (s.withEvents rest)) := by
  simp only [step, he]

theorem step_of_wake {s : State} {rest : List Event} (he : s.events = .wake :: rest) :
    step s = .next (wakeIfDue (s.withEvents rest)) := by
  simp only [step, he]

theorem step_of_write {s : State} {w : HostWrite} {rest : List Event}
    (he : s.events = .write w :: rest) : step s = hostWrite w (s.withEvents rest) := by
  simp only [step, he]

theorem step_of_read {s : State} {r : HostReg} {rest : List Event}
    (he : s.events = .read r :: rest) : step s = hostReadStep r (s.withEvents rest) := by
  simp only [step, he]

theorem wakeIfDue_of_enabled {s : State} (h : s.wakeEnabled = true) : wakeIfDue s = wake s := by
  simp [wakeIfDue, h]

theorem clockTurn_of_enabled {p q : State} (h : p.wakeEnabled = true) : clockTurn p q = wake p := by
  simp [clockTurn, h]

theorem clockTurn_of_not_enabled {p q : State} (h : p.wakeEnabled = false) :
    clockTurn p q = q.tick := by
  simp [clockTurn, h]

/-- The sequencer's own turn put in front of a state whose wake is due is that wake. -/
theorem step_wake_cons {s : State} (h : s.wakeEnabled = true) :
    step { s with events := .wake :: s.events } = .next (wake s) := by
  rw [step_of_wake rfl]
  exact congrArg _ (wakeIfDue_of_enabled h)

theorem step_tick_of_enabled {s : State} {rest : List Event} (he : s.events = .tick :: rest)
    (h : s.wakeEnabled = true) : step s = .next (wake s) := by
  rw [step_of_tick he, clockTurn_of_enabled h]

theorem step_nil_of_enabled {s : State} (he : s.events = []) (h : s.wakeEnabled = true) :
    step s = .next (wake s) := by
  rw [step_of_nil he, wakeIfDue_of_enabled h]

/-! ### What an instruction can do -/

/-- The state with a select code and operands written, nothing else changed (R21, R98). -/
def State.setOperands (s : State) (c : OpCode) (p : Byte) (f a : Bytes) (w : Millis) :
    State :=
  { s with opsel := c, param := p, frame := f, ack := a, timeout := w }

/-- The rows that write `PAY_SIZE` and `PAY_VALID` (R24). -/
def WritesPayload (i : Instr) : Prop :=
  i = .extractPayload ∨ i = .getInfo ∨ i = .getFirmwareVersion ∨ i = .getSoftwareVersion ∨
    ∃ id, i = .getInfosFrame id

/-- What the instruction `i` does to `s`, where it has a next state: a row of the module's is an
arrival; a host row starts from `IDLE` and runs one of the block's issue segments. -/
inductive InstrMoves (i : Instr) (s : State) : State → Prop where
  | arrives (bs : Bytes) : InstrMoves i s (s.arriveAll bs)
  | executes (hr : i.reportsResult = true) (hs : s.seq = .idle)
      (c : OpCode) (p : Byte) (f a : Bytes) (w : Millis) :
      InstrMoves i s (executeIssue (s.setOperands c p f a w))
  | reserved (hr : i.reportsResult = true) (hs : s.seq = .idle) (c : OpCode) :
      InstrMoves i s ((s.setOpsel c).report .invalidParam)
  | waits (hs : s.seq = .idle) (c : OpCode) : InstrMoves i s (waitIssue (s.setOpsel c))
  | queries (hp : WritesPayload i) (hs : s.seq = .idle) (c : OpCode) (p : Byte) :
      InstrMoves i s (getInfoIssue ((s.setOpsel c).setParam p))
  | extracts (hp : WritesPayload i) (hs : s.seq = .idle) (c : OpCode) :
      InstrMoves i s (s.setOpsel c).extractPayload.complete
  | polls (hs : s.seq = .idle) (c : OpCode) : InstrMoves i s (pollIssue (s.setOpsel c))
  | names (hs : s.seq = .idle) (c : OpCode) (n : Bytes) :
      InstrMoves i s ((s.setOpsel c).setName n).complete
  | controls (hs : s.seq = .idle) (c : OpCode) (b o : Bool) :
      InstrMoves i s ((s.setOpsel c).setCtrlBits b o).complete

theorem instrMoves_of_issue {i : Instr} {code : OpCode} {seg : State → State} {s t : State}
    (h : issue code seg s = .next t)
    (hm : s.seq = .idle → InstrMoves i s (seg (s.setOpsel code))) : InstrMoves i s t := by
  obtain ⟨hs, rfl⟩ := issue_next_iff.1 h
  exact hm hs

/-- Everything an instruction can do (R67, R68, R72; log entry 5). -/
theorem instrMoves_of_exec {i : Instr} {s t : State} (h : exec i s = .next t) :
    InstrMoves i s t := by
  cases i with
  | execute =>
    exact instrMoves_of_issue h fun hs => .executes rfl hs _ s.param s.frame s.ack s.timeout
  | startDecode => exact instrMoves_of_issue h fun hs => .executes rfl hs _ s.param _ _ _
  | stopDecode => exact instrMoves_of_issue h fun hs => .executes rfl hs _ s.param _ _ _
  | setTriggerMode => exact instrMoves_of_issue h fun hs => .executes rfl hs _ s.param _ _ _
  | setFillLightBrightness =>
    exact instrMoves_of_issue h fun hs => .executes rfl hs _ s.param _ _ _
  | startDecodeFrame => exact instrMoves_of_issue h fun hs => .executes rfl hs _ s.param _ _ _
  | stopDecodeFrame => exact instrMoves_of_issue h fun hs => .executes rfl hs _ s.param _ _ _
  | setTriggerModeFrame m =>
    exact instrMoves_of_issue (seg := fun s => setTriggerModeIssue (s.setParam m)) h
      fun hs => .executes rfl hs _ m _ _ _
  | setFillLightBrightnessFrame b =>
    exact instrMoves_of_issue (seg := fun s => fillLightIssue (s.setParam b)) h
      fun hs => .executes rfl hs _ b _ _ _
  | reserved0 => exact instrMoves_of_issue h fun hs => .reserved rfl hs _
  | reservedE => exact instrMoves_of_issue h fun hs => .reserved rfl hs _
  | reservedF => exact instrMoves_of_issue h fun hs => .reserved rfl hs _
  | waitResponse => exact instrMoves_of_issue h fun hs => .waits hs _
  | getInfo =>
    exact instrMoves_of_issue h fun hs => .queries (.inr (.inl rfl)) hs 0x4#4 s.param
  | getFirmwareVersion =>
    exact instrMoves_of_issue h fun hs => .queries (.inr (.inr (.inl rfl))) hs _ _
  | getSoftwareVersion =>
    exact instrMoves_of_issue h fun hs => .queries (.inr (.inr (.inr (.inl rfl)))) hs _ _
  | getInfosFrame id =>
    exact instrMoves_of_issue h fun hs => .queries (.inr (.inr (.inr (.inr ⟨id, rfl⟩)))) hs _ id
  | extractPayload =>
    exact instrMoves_of_issue (seg := fun s => s.extractPayload.complete) h
      fun hs => .extracts (.inl rfl) hs _
  | poll => exact instrMoves_of_issue h fun hs => .polls hs _
  | resultName => exact instrMoves_of_issue h fun hs => .names hs _ _
  | setCtrl => exact instrMoves_of_issue h fun hs => .controls hs _ _ _
  | stopDecodeAck => cases h; exact .arrives _
  | setTriggerModeAck m => cases h; exact .arrives _
  | setFillLightBrightnessAck b => cases h; exact .arrives _
  | responseEnvelope h0 h1 h2 hi lo body => cases h; exact .arrives _

/-! ### What a step can do -/

/-- What a step does to `s`, where it has a next state. A wake at its own turn, a wake at a tick
and a wake with no action left are one case. -/
inductive StepMoves (s : State) : State → Prop where
  | wakes (es : List Event) (h : s.wakeEnabled = true) : StepMoves s (wake (s.withEvents es))
  | stays (es : List Event) : StepMoves s (s.withEvents es)
  | ticks (es : List Event) (h : s.wakeEnabled = false) : StepMoves s (s.withEvents es).tick
  | arrives (es : List Event) (b : Byte) : StepMoves s ((s.withEvents es).arrive b)
  | runs {bs : Bytes} {es : List Event} {i : Instr} {t : State} (he : s.events = .instr bs :: es)
      (hd : decode bs = .instr i) (hm : InstrMoves i (s.withEvents es) t) : StepMoves s t
  | writes (es : List Event) (w : HostWrite) (hs : s.seq = .idle) :
      StepMoves s ((s.withEvents es).applyWrite w)
  | resets (es : List Event) (he : s.events = .reset :: es) :
      StepMoves s (s.withEvents es).assertReset

theorem stepMoves_wakeIfDue (s : State) (es : List Event) :
    StepMoves s (wakeIfDue (s.withEvents es)) := by
  rcases wakeIfDue_cases (s.withEvents es) with ⟨h, hw⟩ | ⟨_, hw⟩ <;> rw [hw]
  · exact .wakes es h
  · exact .stays es

/-- Everything a step can do (R5, R19). -/
theorem stepMoves_of_step {s t : State} (h : step s = .next t) : StepMoves s t := by
  rcases step_next_cases h with ⟨_, rfl⟩ | ⟨rest, _, rfl⟩ | ⟨b, rest, _, rfl⟩ | ⟨rest, _, rfl⟩ |
    ⟨bs, rest, i, he, hd, hx⟩ | ⟨w, rest, _, hs, rfl⟩ | ⟨r, rest, _, rfl⟩ | ⟨rest, he, rfl⟩
  · exact stepMoves_wakeIfDue s s.events
  · rcases clockTurn_cases s (s.withEvents rest) with ⟨hw, hc⟩ | ⟨hw, hc⟩ <;> rw [hc]
    · exact .wakes s.events hw
    · exact .ticks rest hw
  · exact .arrives rest b
  · exact stepMoves_wakeIfDue s rest
  · exact .runs he hd (instrMoves_of_exec hx)
  · exact .writes rest w hs
  · exact .stays rest
  · exact .resets rest he

end Sys2Proof.Machine
end

section
/-! PROOFS, family 10_state: the block's invariant `State.Inv` is kept by every wake, every
instruction and every step (O49, O50). An idle block has three clauses to meet (`IdleInv`). The
others speak of a sleep, which only an issue segment or one of the two samples starts: there they
are shown one by one, and everywhere else the block is idle or asleep as before. `{ h with }`
carries an invariant to a state that has the same values in the fields it reads. -/

namespace Sys2Proof.Machine

/-! ### The part of the invariant that an idle block has to meet -/

/-- The clauses of `State.Inv` that do not depend on a sleep in progress. -/
structure State.IdleInv (s : State) : Prop where
  payload : s.payValid = false → s.paySize = 0#16
  bursts : ∀ b ∈ s.txlog, b ≠ []
  notifications : ∀ t ∈ s.obslog, t ≠ []

theorem State.Inv.idleInv {s : State} (h : s.Inv) : s.IdleInv :=
  ⟨h.payload, h.bursts, h.notifications⟩

theorem State.IdleInv.inv {s : State} (h : s.IdleInv) (hq : s.seq = .idle) : s.Inv where
  payload := h.payload
  busyBound := by simp [hq]
  sleepExact := by simp [hq]
  ackFrame := by simp [State.awaitsAck, hq]
  ackGrid := by simp [hq]
  infoFrame := by simp [State.inGetInfo, hq]
  waitBuffer := by simp [hq]
  infoGrid := by simp [hq]
  bursts := h.bursts
  notifications := h.notifications

theorem State.IdleInv.extractPayload {s : State} (h : s.IdleInv) : s.extractPayload.IdleInv :=
  ⟨payloadOf_invalid, h.bursts, h.notifications⟩

theorem State.IdleInv.txWrite {s : State} (h : s.IdleInv) {f : Bytes} (hf : f ≠ []) :
    (s.txWrite f).IdleInv :=
  ⟨h.payload, by simpa [or_imp, forall_and, hf] using h.bursts, h.notifications⟩

theorem State.IdleInv.notify {s : State} (h : s.IdleInv) {r : Bytes} (hr : r ≠ []) :
    (s.notify r).IdleInv :=
  ⟨h.payload, h.bursts, by simpa [or_imp, forall_and, hr] using h.notifications⟩

/-! ### The samples -/

/-- A sleep has just begun, so it is not too long. -/
theorem State.sleep_exact (s : State) (q : Seq) :
    (s.sleep q).elapsed (s.sleep q).tMark ≤ dwellMs (s.sleep q).seq :=
  s.elapsed_now.trans_le (Nat.zero_le _)

/-- An Execute whose sample is taken a whole number of 5 ms into its window (R80). -/
theorem executeSample_inv {s : State} (h : s.IdleInv) (hb : s.bound = true) (ha : s.ack ≠ [])
    (hf : s.frame ≠ []) (hl : s.txlog.getLast? = some s.frame) (hg : s.elapsed s.tStart % 5 = 0) :
    (executeSample s).Inv := by
  rcases executeSample_cases s with ⟨_, _, he⟩ | ⟨_, _, he⟩ | ⟨_, _, he⟩ | ⟨_, ht, he⟩ <;> rw [he]
  · exact State.IdleInv.inv { h with } rfl
  · exact State.IdleInv.inv { h with } rfl
  · exact State.IdleInv.inv { h with } rfl
  · exact {
      payload := h.payload
      busyBound := fun _ => hb
      sleepExact := fun _ => State.sleep_exact _ _
      ackFrame := fun _ => ⟨ha, hf, hl⟩
      ackGrid := fun _ => ⟨hg, ht⟩
      infoFrame := by simp [State.inGetInfo]
      waitBuffer := by simp
      infoGrid := by simp
      bursts := h.bursts
      notifications := h.notifications }

theorem waitFinish_inv {s : State} (h : s.IdleInv) : (waitFinish s).Inv := by
  rcases waitFinish_cases s with ⟨_, he⟩ | ⟨_, he⟩ <;> rw [he]
  · exact State.IdleInv.inv { h with } rfl
  · exact State.IdleInv.inv { h.extractPayload with } rfl

/-- A wait whose buffer is still empty; GetInfo's is a whole number of 20 ms into its window and has
sent its query last (R84, R90). -/
theorem waitSample_inv {s : State} (h : s.IdleInv) (hb : s.bound = true) (hr : s.respBuf = [])
    (hc : s.ctx = .getInfo →
      s.txlog.getLast? = some (getInfosFrame s.param) ∧ s.elapsed s.tStart % 20 = 0) :
    (waitSample s).Inv := by
  rcases waitSample_cases s with ⟨_, he⟩ | ⟨_, _, he⟩ | ⟨_, ht, he⟩ <;> rw [he]
  · exact waitFinish_inv { h with }
  · exact waitFinish_inv h
  · exact {
      payload := h.payload
      busyBound := fun _ => hb
      sleepExact := fun _ => State.sleep_exact _ _
      ackFrame := by simp [State.awaitsAck]
      ackGrid := by simp
      infoFrame := fun hi => (hc (by simpa [State.inGetInfo] using hi)).1
      waitBuffer := fun _ => ⟨hr, ht⟩
      infoGrid := fun _ hi => (hc hi).2
      bursts := h.bursts
      notifications := h.notifications }

/-! ### The wakes -/

/-- A due wake of a block that meets the invariant comes exactly at the end of its sleep. -/
theorem State.Inv.elapsed_eq_dwell {s : State} (h : s.Inv) (hw : s.wakeEnabled = true) :
    s.elapsed s.tMark = dwellMs s.seq := by
  obtain ⟨hq, hd⟩ := s.wakeEnabled_iff.1 hw
  exact le_antisymm (h.sleepExact hq) hd

/-- Two intervals that follow each other add up, as long as the sum stays below the clock's wrap. -/
theorem State.elapsed_add {s : State} {t m : Millis}
    (h : (m - t).toNat + s.elapsed m < 2 ^ 32) : s.elapsed t = (m - t).toNat + s.elapsed m := by
  have hsum : s.now - t = (m - t) + (s.now - m) := by bv_omega
  rw [State.elapsed, State.elapsed] at *
  rw [hsum, BitVec.toNat_add, Nat.mod_eq_of_lt h]

/-- Execute's next sample is 5 ms after its last, and the window ends before the clock wraps: the
largest multiple of 5 below 2^32 is 2^32 - 1, which the last sample did not reach. -/
theorem State.Inv.ackGrid_at_wake {s : State} (h : s.Inv) (hq : s.seq = .exWait)
    (hw : s.wakeEnabled = true) : s.elapsed s.tStart % 5 = 0 := by
  obtain ⟨hgrid, hwin⟩ := h.ackGrid hq
  have hd : s.elapsed s.tMark = 5 := by rw [h.elapsed_eq_dwell hw, hq]; rfl
  have := s.timeout.isLt
  rw [State.elapsed_add (m := s.tMark) (by omega)]
  omega

/-- GetInfo's next sample is 20 ms after its last, inside a window of 1000 ms. -/
theorem State.Inv.infoGrid_at_wake {s : State} (h : s.Inv) (hq : s.seq = .wrWait)
    (hc : s.ctx = .getInfo) (hw : s.wakeEnabled = true) : s.elapsed s.tStart % 20 = 0 := by
  have hgrid := h.infoGrid hq hc
  have hwin : (s.tMark - s.tStart).toNat < 1000 := by
    simpa [State.waitTimeout, hc, Config.defaultTimeoutMs] using (h.waitBuffer hq).2
  have hd : s.elapsed s.tMark = 20 := by rw [h.elapsed_eq_dwell hw, hq]; rfl
  rw [State.elapsed_add (m := s.tMark) (by omega)]
  omega

theorem wake_inv {s : State} (h : s.Inv) (hw : s.wakeEnabled = true) : (wake s).Inv := by
  cases hq : s.seq
  case idle => rwa [wake_of_idle hq]
  case exSettle =>
    obtain ⟨ha, hf, hl⟩ := h.ackFrame (.inl hq)
    rw [wake_of_exSettle hq]
    exact executeSample_inv { h.idleInv with } (h.busyBound (by simp [hq])) ha hf hl
      (by simp [State.elapsed])
  case exWait =>
    obtain ⟨ha, hf, hl⟩ := h.ackFrame (.inr hq)
    rw [wake_of_exWait hq]
    exact executeSample_inv h.idleInv (h.busyBound (by simp [hq])) ha hf hl
      (h.ackGrid_at_wake hq hw)
  case giSettle =>
    rw [wake_of_giSettle hq]
    exact waitSample_inv { h.idleInv with } (h.busyBound (by simp [hq])) rfl
      fun _ => ⟨h.infoFrame (.inl hq), by simp [State.elapsed]⟩
  case wrWait =>
    rw [wake_of_wrWait hq]
    exact waitSample_inv h.idleInv (h.busyBound (by simp [hq])) (h.waitBuffer hq).1
      fun hc => ⟨h.infoFrame (.inr ⟨hq, hc⟩), h.infoGrid_at_wake hq hc hw⟩

/-! ### The issue segments -/

theorem executeIssue_inv {s : State} (h : s.IdleInv) : (executeIssue s).Inv := by
  rcases executeIssue_cases s with ⟨_, he⟩ | ⟨_, hf, _, he⟩ | ⟨hb, hf, ha, he⟩ <;> rw [he]
  · exact State.IdleInv.inv { h with } rfl
  · exact State.IdleInv.inv { h.txWrite hf with } rfl
  · have hs := h.txWrite hf
    exact {
      payload := hs.payload
      busyBound := fun _ => hb
      sleepExact := fun _ => State.sleep_exact _ _
      ackFrame := fun _ => ⟨ha, hf, by simp⟩
      ackGrid := by simp
      infoFrame := by simp [State.inGetInfo]
      waitBuffer := by simp
      infoGrid := by simp
      bursts := hs.bursts
      notifications := hs.notifications }

theorem waitIssue_inv {s : State} (h : s.IdleInv) : (waitIssue s).Inv := by
  rcases waitIssue_cases s with ⟨_, he⟩ | ⟨hb, he⟩ <;> rw [he]
  · exact State.IdleInv.inv { h with } rfl
  · exact waitSample_inv { h with } hb rfl (by simp)

theorem getInfoIssue_inv {s : State} (h : s.IdleInv) : (getInfoIssue s).Inv := by
  rcases getInfoIssue_cases s with ⟨_, he⟩ | ⟨hb, he⟩ <;> rw [he]
  · exact State.IdleInv.inv { h with payload := fun _ => rfl } rfl
  · have hs := h.txWrite (f := getInfosFrame s.param) (by simp [getInfosFrame, frameK3P])
    exact {
      payload := hs.payload
      busyBound := fun _ => hb
      sleepExact := fun _ => State.sleep_exact _ _
      ackFrame := by simp [State.awaitsAck]
      ackGrid := by simp
      infoFrame := by simp
      waitBuffer := by simp
      infoGrid := by simp
      bursts := hs.bursts
      notifications := hs.notifications }

theorem pollScan_idleInv {s : State} (h : s.IdleInv) : (pollScan s).IdleInv := by
  rcases pollScan_cases s with ⟨_, _, he⟩ | ⟨_, he⟩ <;> rw [he] <;> exact { h with }

theorem pollNotify_idleInv {s : State} (h : s.IdleInv) : (pollNotify s).IdleInv := by
  rcases pollNotify_cases s with ⟨_, hr, he⟩ | ⟨_, he⟩ <;> rw [he]
  · exact h.notify hr
  · exact h

theorem pollIssue_inv {s : State} (h : s.IdleInv) : (pollIssue s).Inv :=
  State.IdleInv.inv { pollNotify_idleInv (pollScan_idleInv h) with } rfl

/-! ### Instructions, the environment, steps -/

/-- Bytes that arrive touch nothing the invariant speaks of. -/
theorem State.Inv.arriveAll {s : State} (h : s.Inv) (bs : Bytes) : (s.arriveAll bs).Inv := by
  rw [State.arriveAll_eq]
  exact { h with }

theorem InstrMoves.inv {i : Instr} {s t : State} (hm : InstrMoves i s t) (h : s.Inv) : t.Inv := by
  have hi := h.idleInv
  cases hm with
  | arrives bs => exact h.arriveAll bs
  | executes => exact executeIssue_inv { hi with }
  | reserved => exact State.IdleInv.inv { hi with } rfl
  | waits => exact waitIssue_inv { hi with }
  | queries => exact getInfoIssue_inv { hi with }
  | extracts => exact State.IdleInv.inv { hi.extractPayload with } rfl
  | polls => exact pollIssue_inv { hi with }
  | names => exact State.IdleInv.inv { hi with } rfl
  | controls => exact State.IdleInv.inv { hi with } rfl

theorem dwellMs_le (q : Seq) : dwellMs q ≤ 100 := by
  cases q <;> decide

/-- A millisecond before the end of a sleep leaves it no longer than its length. -/
theorem State.Inv.tick {s : State} (h : s.Inv) (hw : s.wakeEnabled = false) : s.tick.Inv :=
  { h with
    sleepExact := fun hq => by
      have hlt : (s.now - s.tMark).toNat < dwellMs s.seq :=
        (s.wakeEnabled_eq_false_iff.1 hw).resolve_left hq
      have hle := dwellMs_le s.seq
      simp only [State.elapsed, State.tick_now, State.tick_tMark, State.tick_seq]
      bv_omega }

theorem applyWrite_inv {s : State} (h : s.Inv) (w : HostWrite) (hs : s.seq = .idle) :
    (s.applyWrite w).Inv := by
  cases w <;> exact State.IdleInv.inv { h.idleInv with } hs

theorem assertReset_inv {s : State} (h : s.Inv) : s.assertReset.Inv :=
  State.IdleInv.inv { h.idleInv with payload := fun _ => rfl } rfl

theorem StepMoves.inv {s t : State} (hm : StepMoves s t) (h : s.Inv) : t.Inv := by
  have he (es : List Event) : (s.withEvents es).Inv := { h with }
  cases hm with
  | wakes es hw => exact wake_inv (he es) hw
  | stays es => exact he es
  | ticks es hw => exact (he es).tick hw
  | arrives es b => exact (he es).arriveAll [b]
  | runs _ _ hi => exact hi.inv (he _)
  | writes es w hs => exact applyWrite_inv (he es) w hs
  | resets es => exact assertReset_inv (he es)

/-- Settles O49: every step is one of `StepMoves`, and each of these keeps the invariant. -/
theorem everyStepKeepsTheBlockConsistent : Obligations.EveryStepKeepsTheBlockConsistent :=
  fun _ _ h hs => (stepMoves_of_step hs).inv h

/-- Settles O50: an idle block with an empty history and no payload. -/
theorem resetIsConsistent : Obligations.ResetIsConsistent :=
  State.IdleInv.inv ⟨fun _ => rfl, by simp [State.reset], by simp [State.reset]⟩ rfl

end Sys2Proof.Machine
end

section
/-! PROOFS, family 10_state: who writes `RESULT` (O43), and who writes the payload
registers (O44). -/

namespace Sys2Proof.Machine

/-! ### `RESULT` and `RESULT_VALID` -/

/-- `RESULT` and `RESULT_VALID` are as they were. -/
def SameResult (s t : State) : Prop :=
  t.result = s.result ∧ t.resultValid = s.resultValid

/-- A result has been reported: it is valid, and the block is idle (R123). -/
def Reported (t : State) : Prop :=
  t.resultValid = true ∧ t.seq = .idle

theorem reported_report (s : State) (r : CmdResult) : Reported (s.report r) := ⟨rfl, rfl⟩

theorem executeSample_result (s : State) :
    SameResult s (executeSample s) ∨ Reported (executeSample s) := by
  rcases executeSample_cases s with ⟨_, _, h⟩ | ⟨_, _, h⟩ | ⟨_, _, h⟩ | ⟨_, _, h⟩ <;> rw [h]
  · exact .inr (reported_report _ _)
  · exact .inr (reported_report _ _)
  · exact .inr (reported_report _ _)
  · exact .inl ⟨rfl, rfl⟩

theorem executeIssue_result (s : State) :
    SameResult s (executeIssue s) ∨ Reported (executeIssue s) := by
  rcases executeIssue_cases s with ⟨_, h⟩ | ⟨_, _, _, h⟩ | ⟨_, _, _, h⟩ <;> rw [h]
  · exact .inr (reported_report _ _)
  · exact .inr (reported_report _ _)
  · exact .inl ⟨rfl, rfl⟩

theorem waitSample_result (s : State) : SameResult s (waitSample s) := by
  obtain ⟨_, _, _, _, _, _, h⟩ := waitSample_writes s
  rw [h]; exact ⟨rfl, rfl⟩

/-- Only an Execute's wake reports (R23). -/
theorem wake_result (s : State) :
    SameResult s (wake s) ∨ (Reported (wake s) ∧ s.awaitsAck) := by
  cases hq : s.seq
  case idle => rw [wake_of_idle hq]; exact .inl ⟨rfl, rfl⟩
  case exSettle =>
    rw [wake_of_exSettle hq]
    exact (executeSample_result s.startWindow).imp id fun h => ⟨h, .inl hq⟩
  case exWait =>
    rw [wake_of_exWait hq]
    exact (executeSample_result s).imp id fun h => ⟨h, .inr hq⟩
  case giSettle => rw [wake_of_giSettle hq]; exact .inl (waitSample_result (s.beginWait .getInfo))
  case wrWait => rw [wake_of_wrWait hq]; exact .inl (waitSample_result s)

theorem InstrMoves.result {i : Instr} {s t : State} (hm : InstrMoves i s t) :
    SameResult s t ∨ (Reported t ∧ i.reportsResult = true) := by
  cases hm with
  | executes hr => exact (executeIssue_result _).imp id fun h => ⟨h, hr⟩
  | reserved hr => exact .inr ⟨reported_report _ _, hr⟩
  | arrives bs => rw [State.arriveAll_eq]; exact .inl ⟨rfl, rfl⟩
  | waits _ c =>
    obtain ⟨_, _, _, _, _, _, _, _, h⟩ := waitIssue_writes (s.setOpsel c)
    rw [h]; exact .inl ⟨rfl, rfl⟩
  | queries _ _ c p =>
    obtain ⟨_, _, _, _, _, _, _, h⟩ := getInfoIssue_writes ((s.setOpsel c).setParam p)
    rw [h]; exact .inl ⟨rfl, rfl⟩
  | polls _ c =>
    obtain ⟨_, _, _, _, h⟩ := pollIssue_writes (s.setOpsel c)
    rw [h]; exact .inl ⟨rfl, rfl⟩
  | extracts => exact .inl ⟨rfl, rfl⟩
  | names => exact .inl ⟨rfl, rfl⟩
  | controls => exact .inl ⟨rfl, rfl⟩

/-- This step may report a result: an Execute waits, or a row that reports is issued (R23). -/
def MayReport (s : State) : Prop :=
  s.awaitsAck ∨ ∃ bs rest i, s.events = .instr bs :: rest ∧ decode bs = .instr i ∧
    i.reportsResult = true

theorem StepMoves.result {s t : State} (hm : StepMoves s t)
    (hn : ∀ rest, s.events ≠ .reset :: rest) : SameResult s t ∨ (Reported t ∧ MayReport s) := by
  cases hm with
  | wakes es => exact (wake_result (s.withEvents es)).imp id fun ⟨hr, ha⟩ => ⟨hr, .inl ha⟩
  | runs he hd hi => exact hi.result.imp id fun ⟨hr, h⟩ => ⟨hr, .inr ⟨_, _, _, he, hd, h⟩⟩
  | writes es w => cases w <;> exact .inl ⟨rfl, rfl⟩
  | resets es he => exact absurd he (hn es)
  | stays => exact .inl ⟨rfl, rfl⟩
  | ticks => exact .inl ⟨rfl, rfl⟩
  | arrives => exact .inl ⟨rfl, rfl⟩

/-- Settles O43: a step either leaves the two fields or reports, and who reports is `MayReport`. -/
theorem onlyExecutesReportAResult : Obligations.OnlyExecutesReportAResult := by
  intro s t hs hn
  rcases (stepMoves_of_step hs).result hn with ⟨hr, hv⟩ | ⟨⟨hv, hq⟩, hw⟩
  · exact ⟨fun h => hv.trans h, fun h => (h.elim (· hr) (· hv)).elim⟩
  · exact ⟨fun _ => hv, fun _ => ⟨hv, hq, hw⟩⟩

/-! ### `PAY_SIZE` and `PAY_VALID` -/

/-- `PAY_SIZE` and `PAY_VALID` are as they were. -/
def SamePayload (s t : State) : Prop :=
  t.paySize = s.paySize ∧ t.payValid = s.payValid

theorem executeSample_payload (s : State) : SamePayload s (executeSample s) := by
  obtain ⟨_, _, _, _, _, _, h⟩ := executeSample_writes s
  rw [h]; exact ⟨rfl, rfl⟩

/-- A wait that is not GetInfo's ends without an extraction (R84). -/
theorem waitFinish_of_host {s : State} (hc : s.ctx = .host) : waitFinish s = s.complete := by
  simp [waitFinish, hc]

theorem waitSample_payload_of_host {s : State} (hc : s.ctx = .host) :
    SamePayload s (waitSample s) := by
  rcases waitSample_cases s with ⟨_, h⟩ | ⟨_, _, h⟩ | ⟨_, _, h⟩ <;> rw [h]
  · rw [waitFinish_of_host (s := s.readBurst) hc]; exact ⟨rfl, rfl⟩
  · rw [waitFinish_of_host hc]; exact ⟨rfl, rfl⟩
  · exact ⟨rfl, rfl⟩

theorem waitIssue_payload (s : State) : SamePayload s (waitIssue s) := by
  rcases waitIssue_cases s with ⟨_, h⟩ | ⟨_, h⟩ <;> rw [h]
  · exact ⟨rfl, rfl⟩
  · exact waitSample_payload_of_host (s := s.beginWait .host) rfl

/-- Of the wakes only GetInfo's extract (R91). -/
theorem wake_payload (s : State) : SamePayload s (wake s) ∨ s.inGetInfo := by
  cases hq : s.seq
  case idle => rw [wake_of_idle hq]; exact .inl ⟨rfl, rfl⟩
  case exSettle => rw [wake_of_exSettle hq]; exact .inl (executeSample_payload s.startWindow)
  case exWait => rw [wake_of_exWait hq]; exact .inl (executeSample_payload s)
  case giSettle => exact .inr (.inl hq)
  case wrWait =>
    cases hc : s.ctx
    case host => rw [wake_of_wrWait hq]; exact .inl (waitSample_payload_of_host hc)
    case getInfo => exact .inr (.inr ⟨hq, hc⟩)

theorem InstrMoves.payload {i : Instr} {s t : State} (hm : InstrMoves i s t) :
    SamePayload s t ∨ WritesPayload i := by
  cases hm with
  | queries hp => exact .inr hp
  | extracts hp => exact .inr hp
  | arrives bs => rw [State.arriveAll_eq]; exact .inl ⟨rfl, rfl⟩
  | executes _ _ c p f a w =>
    obtain ⟨_, _, _, _, _, _, h⟩ := executeIssue_writes (s.setOperands c p f a w)
    rw [h]; exact .inl ⟨rfl, rfl⟩
  | waits _ c => exact .inl (waitIssue_payload (s.setOpsel c))
  | polls _ c =>
    obtain ⟨_, _, _, _, h⟩ := pollIssue_writes (s.setOpsel c)
    rw [h]; exact .inl ⟨rfl, rfl⟩
  | reserved => exact .inl ⟨rfl, rfl⟩
  | names => exact .inl ⟨rfl, rfl⟩
  | controls => exact .inl ⟨rfl, rfl⟩

/-- This step may write the payload registers: a GetInfo is under way, or a row that writes them is
issued (R24). -/
def MayExtract (s : State) : Prop :=
  s.inGetInfo ∨ ∃ bs rest i, s.events = .instr bs :: rest ∧ decode bs = .instr i ∧ WritesPayload i

theorem StepMoves.payload {s t : State} (hm : StepMoves s t)
    (hn : ∀ rest, s.events ≠ .reset :: rest) : SamePayload s t ∨ MayExtract s := by
  cases hm with
  | wakes es => exact (wake_payload (s.withEvents es)).imp id .inl
  | runs he hd hi => exact hi.payload.imp id fun h => .inr ⟨_, _, _, he, hd, h⟩
  | writes es w => cases w <;> exact .inl ⟨rfl, rfl⟩
  | resets es he => exact absurd he (hn es)
  | stays => exact .inl ⟨rfl, rfl⟩
  | ticks => exact .inl ⟨rfl, rfl⟩
  | arrives => exact .inl ⟨rfl, rfl⟩

/-- Settles O44: a step that is none of `MayExtract` leaves both registers. -/
theorem onlyExtractionsWriteThePayload : Obligations.OnlyExtractionsWriteThePayload := by
  intro s t hs hn hne
  exact ((stepMoves_of_step hs).payload hn).resolve_left fun ⟨hp, hv⟩ => hne.elim (· hp) (· hv)

end Sys2Proof.Machine
end

section
/-! PROOFS, family 10_state: the clock and the due wake (O5, O55), the reset values (O9), and the
host port's writes, reads and views (O37 to O40). -/

namespace Sys2Proof.Machine

/-! ### The clock and the due wake -/

/-- Settles O5: the two clauses are the two ways of the clock's turn. -/
theorem tickWaitsForADueWake : Obligations.TickWaitsForADueWake := by
  intro s rest he
  constructor
  · intro hn
    rw [step_of_tick he, clockTurn_of_not_enabled (s.wakeEnabled_eq_false_iff.2 hn)]
    rfl
  · intro hb hd
    have hw : s.wakeEnabled = true := s.wakeEnabled_iff.2 ⟨hb, hd⟩
    have hstep := step_tick_of_enabled he hw
    exact ⟨hstep, hstep.trans (step_wake_cons hw).symm, (wake_frame s).now, (wake_frame s).events,
      wake_idle_or_sleeps s⟩

/-- Settles O55: in each of the three places the enabled wake is the step. -/
theorem dueWakeRunsWhateverCallsForIt : Obligations.DueWakeRunsWhateverCallsForIt := by
  intro s hb hd
  have hw : s.wakeEnabled = true := s.wakeEnabled_iff.2 ⟨hb, hd⟩
  refine ⟨fun he => ?_, fun rest he => ?_, fun rest he => ?_⟩
  · have hstep := step_nil_of_enabled he hw
    have hcons := step_wake_cons hw
    rw [he] at hcons
    exact ⟨hstep, hstep.trans hcons.symm⟩
  · rw [step_of_wake he, wakeIfDue_of_enabled (s := s.withEvents rest) hw]
    rfl
  · have hstep := step_tick_of_enabled he hw
    exact ⟨hstep, hstep.trans (step_wake_cons hw).symm⟩

/-! ### Reset -/

/-- Settles O9: the values stand in `State.reset`. -/
theorem resetLeavesTheStatedValues : Obligations.ResetLeavesTheStatedValues := by
  unfold Obligations.ResetLeavesTheStatedValues
  decide

/-! ### The host's writes and reads -/

/-- An operand write of an idle block is the write of its register, with the action taken off. -/
theorem step_write_of_idle {s : State} {w : HostWrite} {rest : List Event} (hs : s.seq = .idle)
    (he : s.events = .write w :: rest) : step s = .next ((s.withEvents rest).applyWrite w) := by
  rw [step_of_write he]
  exact hostWrite_next_iff.2 ⟨hs, rfl⟩

/-- Settles O37: the five operand writes, each by its equation of `State.applyWrite`. -/
theorem registerWritesReachOneRegister : Obligations.RegisterWritesReachOneRegister :=
  fun _ _ hs => ⟨fun _ he => step_write_of_idle hs he, fun _ he => step_write_of_idle hs he,
    fun _ he => step_write_of_idle hs he, fun _ he => step_write_of_idle hs he,
    fun _ he => step_write_of_idle hs he⟩

theorem hostRead_of_open {s : State} {r : HostReg} (h : s.seq = .idle ∨ r = .status) :
    s.hostRead r = some (s.regValue r) := if_pos h

theorem hostRead_of_closed {s : State} {r : HostReg} (h : ¬(s.seq = .idle ∨ r = .status)) :
    s.hostRead r = none := if_neg h

/-- Settles O38: a read has a step exactly where the port is open to it. -/
theorem readsChangeNothing : Obligations.ReadsChangeNothing := by
  intro s r rest he
  rw [step_of_read he, hostReadStep]
  constructor
  · intro ho
    rw [hostRead_of_open (s := s.withEvents rest) ho]
    rfl
  · intro hb hr
    rw [hostRead_of_closed (s := s.withEvents rest) (not_or.2 ⟨hb, hr⟩)]

/-! ### `STATUS` and `CTRL` -/

/-- A flag at bit `n` shows there and nowhere else. -/
theorem flagBit_getLsbD (f : Bool) {n : Nat} (hn : n < 8) (i : Nat) :
    (flagBit f n).getLsbD i = (f && decide (i = n)) := by
  cases f
  · simp [flagBit]
  · simp only [flagBit, if_true, Bool.true_and, BitVec.getLsbD_shiftLeft, BitVec.getLsbD_one]
    grind

theorem State.status_getLsbD (s : State) (i : Nat) :
    s.status.getLsbD i = ((s.busy && decide (i = 0)) || (s.resultValid && decide (i = 1)) ||
      (s.scanNonempty && decide (i = 2))) := by
  simp [State.status, flagBit_getLsbD]

/-- Settles O39: the bits of `STATUS` are those of its three flags. -/
theorem statusShowsItsThreeFlags : Obligations.StatusShowsItsThreeFlags := by
  refine ⟨fun s => hostRead_of_open (.inr rfl), fun s => ⟨?busy, ?valid, ?scan, ?rest⟩, by decide⟩
  case busy => rw [State.status_getLsbD]; simp
  case valid => rw [State.status_getLsbD]; simp
  case scan => rw [State.status_getLsbD]; simp [State.scanNonempty]
  case rest =>
    intro i hi
    have : i ≠ 0 ∧ i ≠ 1 ∧ i ≠ 2 := by omega
    simp [State.status_getLsbD, this]

/-- `CTRL` is the sum of its two flags' weights (R31). -/
theorem State.ctrl_setWidth (s : State) : s.ctrl.setWidth 32 =
    (if s.bound = true then 1#32 else 0#32) + (if s.obsEn = true then 2#32 else 0#32) := by
  rw [State.ctrl]
  cases s.bound <;> cases s.obsEn <;> decide

theorem State.regValue_result_of_valid {s : State} (h : s.resultValid = true) :
    s.regValue .result = .word ((resultCode s.result).setWidth 32) := if_pos h

theorem State.regValue_result_of_not_valid {s : State} (h : s.resultValid = false) :
    s.regValue .result = .absent := if_neg (by simp [h])

/-- Bit 16 stands above the 16 bits of the size, so the union of the two is their sum (R33). -/
theorem State.pay_eq (s : State) : s.pay =
    BitVec.ofNat 32 (s.paySize.toNat + if s.payValid = true then 65536 else 0) := by
  have hlt := s.paySize.isLt
  apply BitVec.eq_of_toNat_eq
  cases hv : s.payValid
  · simp [State.pay, hv]
  · have hor : s.paySize.toNat + 65536 = s.paySize.toNat ||| 65536 := by
      rw [Nat.add_comm, Nat.or_comm]
      exact Nat.two_pow_add_eq_or_of_lt hlt 1
    have hsize : s.paySize.toNat % 4294967296 = s.paySize.toNat := Nat.mod_eq_of_lt (by omega)
    simp [State.pay, hv, hsize, ← hor]
    omega

/-! ### The registers' numbers -/

theorem regOfNumber_regNumber (r : HostReg) : regOfNumber (regNumber r) = some r := by
  cases r <;> rfl

theorem regOfNumber_of_le {n : Nat} (h : 12 ≤ n) : regOfNumber n = none := by
  obtain ⟨k, rfl⟩ := Nat.exists_eq_add_of_le' h
  rfl

theorem regNumber_of_regOfNumber {n : Nat} {r : HostReg} (h : regOfNumber n = some r) :
    regNumber r = n := by
  unfold regOfNumber at h
  split at h <;> cases h <;> rfl

/-- Settles O40: each register by its value, the two tables of numbers by being inverse. -/
theorem idleRegistersReadBack : Obligations.IdleRegistersReadBack := by
  refine ⟨fun s hs => ?_, ?_, fun n r => ⟨regNumber_of_regOfNumber, ?_⟩⟩
  · have hread (r : HostReg) : s.hostRead r = some (s.regValue r) := hostRead_of_open (.inl hs)
    refine ⟨fun hv => ?absent, fun hv => ?code, ?ctrl, ?pay, hread _, hread _, hread _, hread _,
      hread _, hread _, hread _, hread _⟩
    case absent => rw [hread, State.regValue_result_of_not_valid hv]
    case code =>
      rw [hread, State.regValue_result_of_valid hv]
      cases s.result <;> rfl
    case ctrl => rw [hread, State.regValue, State.ctrl_setWidth]
    case pay => rw [hread, State.regValue, State.pay_eq]
  · exact ⟨rfl, rfl, rfl, rfl, rfl, rfl, rfl, rfl, rfl, rfl, rfl, rfl, fun _ => regOfNumber_of_le⟩
  · rintro rfl
    exact regOfNumber_regNumber r

end Sys2Proof.Machine
end

section
/-! PROOFS, family 20_memory: the receive queue. Bytes come in at its tail (O7, O35) and the block
takes them from its head (O48); the wake's frame at the sequencer's own turn (O47). -/

namespace Sys2Proof.Machine

/-! ### Arrivals -/

theorem step_of_arrive {s : State} {b : Byte} {rest : List Event}
    (he : s.events = .arrive b :: rest) : step s = .next ((s.withEvents rest).arrive b) := by
  simp only [step, he]

/-- Settles O7: the arrival with the action taken off. -/
theorem arrivalAppendsAByte : Obligations.ArrivalAppendsAByte :=
  fun _ _ _ he => step_of_arrive he

theorem exec_stopDecodeAck (s : State) :
    exec .stopDecodeAck s = .next (s.arriveAll stopDecodeAck) := rfl

theorem exec_setTriggerModeAck (m : Byte) (s : State) :
    exec (.setTriggerModeAck m) s = .next (s.arriveAll (setTriggerModeAck m)) := rfl

theorem exec_setFillLightBrightnessAck (b : Byte) (s : State) :
    exec (.setFillLightBrightnessAck b) s = .next (s.arriveAll (fillLightAck b)) := rfl

theorem exec_responseEnvelope (h0 h1 h2 hi lo : Byte) (body : Bytes) (s : State) :
    exec (.responseEnvelope h0 h1 h2 hi lo body) s =
      .next (s.arriveAll ([h0, h1, h2, hi, lo] ++ body)) := rfl

/-- Settles O35: each of the module's rows is the arrival of its bytes. -/
theorem moduleRowsArriveInOrder : Obligations.ModuleRowsArriveInOrder := by
  intro s p h0 h1 h2 hi lo body
  refine ⟨?stop, ?trigger, ?light, ?envelope⟩
  case stop => rw [exec_stopDecodeAck, State.arriveAll_eq]; rfl
  case trigger => rw [exec_setTriggerModeAck, State.arriveAll_eq]; rfl
  case light => rw [exec_setFillLightBrightnessAck, State.arriveAll_eq]; rfl
  case envelope => rw [exec_responseEnvelope, State.arriveAll_eq, List.append_assoc]

/-! ### What each segment leaves of the queue -/

theorem executeSample_rxq_suffix (s : State) : (executeSample s).rxq <:+ s.rxq := by
  rcases executeSample_cases s with ⟨_, _, h⟩ | ⟨_, _, h⟩ | ⟨_, _, h⟩ | ⟨_, _, h⟩ <;> rw [h]
  · exact List.drop_suffix _ _
  · exact List.drop_suffix _ _
  · exact List.suffix_rfl
  · exact List.suffix_rfl

theorem waitFinish_rxq (s : State) : (waitFinish s).rxq = s.rxq := by
  obtain ⟨_, _, _, h⟩ := waitFinish_writes s
  rw [h]

theorem waitSample_rxq_suffix (s : State) : (waitSample s).rxq <:+ s.rxq := by
  rcases waitSample_cases s with ⟨_, h⟩ | ⟨_, _, h⟩ | ⟨_, _, h⟩ <;> rw [h]
  · rw [waitFinish_rxq]; exact List.drop_suffix _ _
  · rw [waitFinish_rxq]
  · exact List.suffix_rfl

theorem executeIssue_rxq_suffix (s : State) : (executeIssue s).rxq <:+ s.rxq := by
  rcases executeIssue_cases s with ⟨_, h⟩ | ⟨_, _, _, h⟩ | ⟨_, _, _, h⟩ <;> rw [h]
  · exact List.suffix_rfl
  · exact List.nil_suffix
  · exact List.nil_suffix

theorem waitIssue_rxq_suffix (s : State) : (waitIssue s).rxq <:+ s.rxq := by
  rcases waitIssue_cases s with ⟨_, h⟩ | ⟨_, h⟩ <;> rw [h]
  · exact List.suffix_rfl
  · exact waitSample_rxq_suffix (s.beginWait .host)

theorem getInfoIssue_rxq_suffix (s : State) : (getInfoIssue s).rxq <:+ s.rxq := by
  rcases getInfoIssue_cases s with ⟨_, h⟩ | ⟨_, h⟩ <;> rw [h]
  · exact List.suffix_rfl
  · exact List.nil_suffix

theorem pollNotify_rxq (s : State) : (pollNotify s).rxq = s.rxq := by
  obtain ⟨_, h⟩ := pollNotify_writes s
  rw [h]

theorem pollIssue_rxq_suffix (s : State) : (pollIssue s).rxq <:+ s.rxq := by
  rw [pollIssue, State.complete_rxq, pollNotify_rxq]
  rcases pollScan_cases s with ⟨_, _, h⟩ | ⟨_, h⟩ <;> rw [h]
  · exact List.drop_suffix _ _
  · exact List.suffix_rfl

theorem wake_rxq_suffix (s : State) : (wake s).rxq <:+ s.rxq := by
  cases hq : s.seq
  case idle => rw [wake_of_idle hq]
  case exSettle => rw [wake_of_exSettle hq]; exact executeSample_rxq_suffix s.startWindow
  case exWait => rw [wake_of_exWait hq]; exact executeSample_rxq_suffix s
  case giSettle => rw [wake_of_giSettle hq]; exact waitSample_rxq_suffix (s.beginWait .getInfo)
  case wrWait => rw [wake_of_wrWait hq]; exact waitSample_rxq_suffix s

theorem rxq_suffix_of_issue {code : OpCode} {seg : State → State} {s t : State}
    (h : issue code seg s = .next t) (hseg : (seg (s.setOpsel code)).rxq <:+ s.rxq) :
    t.rxq <:+ s.rxq := by
  obtain ⟨_, rfl⟩ := issue_next_iff.1 h
  exact hseg

/-- The rows of the host, by the segment each issues; the module's rows are none of them. -/
theorem exec_host_rxq_suffix {i : Instr} {s t : State} (hi : i.isHost = true)
    (h : exec i s = .next t) : t.rxq <:+ s.rxq := by
  cases i with
  | execute | startDecode | stopDecode | setTriggerMode | setFillLightBrightness
  | startDecodeFrame | stopDecodeFrame =>
    exact rxq_suffix_of_issue h (executeIssue_rxq_suffix _)
  | setTriggerModeFrame m =>
    exact rxq_suffix_of_issue (seg := fun s => setTriggerModeIssue (s.setParam m)) h
      (executeIssue_rxq_suffix _)
  | setFillLightBrightnessFrame b =>
    exact rxq_suffix_of_issue (seg := fun s => fillLightIssue (s.setParam b)) h
      (executeIssue_rxq_suffix _)
  | waitResponse => exact rxq_suffix_of_issue h (waitIssue_rxq_suffix _)
  | getInfo | getFirmwareVersion | getSoftwareVersion | getInfosFrame =>
    exact rxq_suffix_of_issue h (getInfoIssue_rxq_suffix _)
  | poll => exact rxq_suffix_of_issue h (pollIssue_rxq_suffix _)
  | extractPayload =>
    exact rxq_suffix_of_issue (seg := fun s => s.extractPayload.complete) h List.suffix_rfl
  | resultName | setCtrl | reserved0 | reservedE | reservedF =>
    exact rxq_suffix_of_issue h List.suffix_rfl
  | stopDecodeAck | setTriggerModeAck | setFillLightBrightnessAck | responseEnvelope =>
    cases hi

/-! ### The sequencer's own turn -/

/-- The sequencer's turn is a wake, or nothing happens but that the turn is over. -/
theorem step_wake_next_cases {s t : State} {rest : List Event} (he : s.events = .wake :: rest)
    (h : step s = .next t) : t = wake (s.withEvents rest) ∨ t = s.withEvents rest := by
  cases (step_of_wake he).symm.trans h
  exact (wakeIfDue_cases (s.withEvents rest)).imp And.right And.right

/-- Settles O47: the frame of the wake, or of no wake at all. -/
theorem wakesKeepOperandsAndHistories : Obligations.WakesKeepOperandsAndHistories := by
  intro s t rest he h
  rcases step_wake_next_cases he h with rfl | rfl
  · have hf := wake_frame (s.withEvents rest)
    exact ⟨hf.opsel, hf.frame, hf.ack, hf.timeout, hf.param, hf.bound, hf.obsEn, hf.name, hf.txlog,
      hf.obslog, hf.now⟩
  · exact ⟨rfl, rfl, rfl, rfl, rfl, rfl, rfl, rfl, rfl, rfl, rfl⟩

/-- Settles O48: by the host's rows and by the wake's segments. -/
theorem bytesLeaveFromTheHead : Obligations.BytesLeaveFromTheHead := by
  refine ⟨fun i s t => exec_host_rxq_suffix, fun s t rest he h => ?_⟩
  rcases step_wake_next_cases he h with rfl | rfl
  · exact wake_rxq_suffix (s.withEvents rest)
  · exact List.suffix_rfl

end Sys2Proof.Machine
end

section
/-! PROOFS, family 20_memory: who sends (O42). The two segments that send do so after a drain; every
other step leaves the transmit history. -/

namespace Sys2Proof.Machine

/-- One burst, not empty, has been sent by a bound block, and the receive queue is drained (R42,
R41). -/
def SendsBurst (s t : State) : Prop :=
  s.bound = true ∧ t.rxq = [] ∧ ∃ f, f ≠ [] ∧ t.txlog = s.txlog ++ [f]

theorem executeIssue_sends (s : State) :
    (executeIssue s).txlog = s.txlog ∨ SendsBurst s (executeIssue s) := by
  rcases executeIssue_cases s with ⟨_, h⟩ | ⟨hb, hf, _, h⟩ | ⟨hb, hf, _, h⟩ <;> rw [h]
  · exact .inl rfl
  · exact .inr ⟨hb, rfl, s.frame, hf, rfl⟩
  · exact .inr ⟨hb, rfl, s.frame, hf, rfl⟩

theorem getInfosFrame_ne_nil (id : Byte) : getInfosFrame id ≠ [] := by
  simp [getInfosFrame, frameK3P]

theorem getInfoIssue_sends (s : State) :
    (getInfoIssue s).txlog = s.txlog ∨ SendsBurst s (getInfoIssue s) := by
  rcases getInfoIssue_cases s with ⟨_, h⟩ | ⟨hb, h⟩ <;> rw [h]
  · exact .inl rfl
  · exact .inr ⟨hb, rfl, _, getInfosFrame_ne_nil s.param, rfl⟩

/-- An instruction that sends is an Execute or a query, issued from `IDLE` (R75, R89). -/
theorem InstrMoves.sends {i : Instr} {s t : State} (hm : InstrMoves i s t) :
    t.txlog = s.txlog ∨ (s.seq = .idle ∧ SendsBurst s t) := by
  cases hm with
  | executes _ hs c p f a w =>
    exact (executeIssue_sends (s.setOperands c p f a w)).imp id fun h => ⟨hs, h⟩
  | queries _ hs c p =>
    exact (getInfoIssue_sends ((s.setOpsel c).setParam p)).imp id fun h => ⟨hs, h⟩
  | arrives bs => rw [State.arriveAll_eq]; exact .inl rfl
  | waits _ c =>
    obtain ⟨_, _, _, _, _, _, _, _, h⟩ := waitIssue_writes (s.setOpsel c)
    rw [h]; exact .inl rfl
  | polls _ c =>
    obtain ⟨_, _, _, _, h⟩ := pollIssue_writes (s.setOpsel c)
    rw [h]; exact .inl rfl
  | reserved => exact .inl rfl
  | extracts => exact .inl rfl
  | names => exact .inl rfl
  | controls => exact .inl rfl

/-- A step that sends is an instruction of the host's (R42, R79). -/
theorem StepMoves.sends {s t : State} (hm : StepMoves s t) :
    t.txlog = s.txlog ∨
      ((∃ bs rest, s.events = .instr bs :: rest) ∧ s.seq = .idle ∧ SendsBurst s t) := by
  cases hm with
  | wakes es => exact .inl (wake_frame (s.withEvents es)).txlog
  | runs he _ hi => exact hi.sends.imp id fun h => ⟨⟨_, _, he⟩, h⟩
  | writes es w => cases w <;> exact .inl rfl
  | stays => exact .inl rfl
  | ticks => exact .inl rfl
  | arrives => exact .inl rfl
  | resets => exact .inl rfl

/-- Settles O42: every step is one of `StepMoves`, and of these only a host's issue sends. -/
theorem burstsAreSentOneAtATime : Obligations.BurstsAreSentOneAtATime := by
  intro s t hs
  refine (stepMoves_of_step hs).sends.imp id ?_
  rintro ⟨⟨bs, rest, he⟩, hq, hb, hr, f, hf, hl⟩
  exact ⟨f, bs, rest, he, hq, hb, hf, hl, hr⟩

end Sys2Proof.Machine
end

section
/-! PROOFS, family 30_encoding: the decoder and the encoder undo each other (O1, O2). The decoder's
parts are taken in the order in which `decode` calls them; the one place where two rows could read
the same bytes, an ack that is also an empty envelope (log entry 7), is `readsAsAck_iff`. -/

namespace Sys2Proof

/-! ### Select codes -/

theorem encode_decodeOpsel (c : OpCode) : encode (decodeOpsel c) = [c.setWidth 8] := by
  decide +revert

theorem wellFormed_decodeOpsel (c : OpCode) : wellFormed (decodeOpsel c) = true := by
  decide +revert

theorem setWidth_opcode_of_lt {b : Byte} (h : b.toNat < 16) :
    (b.setWidth 4).setWidth 8 = b := by
  apply BitVec.eq_of_toNat_eq
  simp only [BitVec.toNat_setWidth]
  omega

theorem decodeSelect_instr_iff {b : Byte} {i : Instr} :
    decodeSelect b = .instr i ↔ b.toNat < 16 ∧ decodeOpsel (b.setWidth 4) = i := by
  unfold decodeSelect
  split <;> simp_all

/-! ### Frames -/

theorem decodeFrame3_instr {b0 b1 b2 : Byte} {i : Instr} (h : decodeFrame3 b0 b1 b2 = .instr i) :
    encode i = [b0, b1, b2] ∧ wellFormed i = true := by
  unfold decodeFrame3 at h
  split at h
  next hb => obtain ⟨rfl, rfl, rfl⟩ := hb; cases h; exact ⟨rfl, rfl⟩
  next =>
    split at h
    next hb => obtain ⟨rfl, rfl, rfl⟩ := hb; cases h; exact ⟨rfl, rfl⟩
    next =>
      split at h
      next hb => obtain ⟨rfl, rfl⟩ := hb; cases h; exact ⟨rfl, rfl⟩
      next => cases h

theorem brightnessInRange_iff {b : Byte} :
    brightnessInRange b = true ↔ b.toNat ≤ Config.brightnessMax :=
  decide_eq_true_iff

theorem decodeFrame4_instr {b0 b1 b2 b3 : Byte} {i : Instr}
    (h : decodeFrame4 b0 b1 b2 b3 = .instr i) :
    encode i = [b0, b1, b2, b3] ∧ wellFormed i = true := by
  unfold decodeFrame4 at h
  split at h
  next hb => obtain ⟨rfl, rfl, rfl⟩ := hb; cases h; exact ⟨rfl, rfl⟩
  next =>
    split at h
    next hb =>
      obtain ⟨rfl, rfl, rfl⟩ := hb
      split at h
      next hr => cases h; exact ⟨rfl, brightnessInRange_iff.2 hr⟩
      next => cases h
    next => cases h

theorem decodeFrame4_brightness (b : Byte) : decodeFrame4 0x21#8 0x62#8 0x48#8 b =
    if b.toNat ≤ Config.brightnessMax then .instr (.setFillLightBrightnessFrame b)
    else .rejected .brightnessOutOfRange := rfl

/-! ### Acks and envelopes -/

theorem decodeAck_some {b0 b1 b2 b3 b4 : Byte} {i : Instr} (h : decodeAck b0 b1 b2 b3 b4 = some i) :
    encode i = [b0, b1, b2, b3, b4] ∧ wellFormed i = true := by
  unfold decodeAck at h
  split at h
  next hb => obtain ⟨rfl, rfl, rfl, rfl, rfl⟩ := hb; cases h; exact ⟨rfl, rfl⟩
  next =>
    split at h
    next hb => obtain ⟨rfl, rfl, rfl, rfl⟩ := hb; cases h; exact ⟨rfl, rfl⟩
    next =>
      split at h
      next hb => obtain ⟨rfl, rfl, rfl, rfl⟩ := hb; cases h; exact ⟨rfl, rfl⟩
      next => cases h

theorem bodyHoldsPayload_iff {hi lo : Byte} {body : Bytes} :
    bodyHoldsPayload hi lo body = true ↔ declaredLength hi lo ≤ body.length :=
  decide_eq_true_iff

theorem declaredLength_eq_zero_iff {hi lo : Byte} :
    declaredLength hi lo = 0 ↔ hi = 0x00#8 ∧ lo = 0x00#8 := by
  simp [declaredLength, ← BitVec.toNat_inj]

theorem decodeAck_ne_none_iff {b0 b1 b2 b3 b4 : Byte} :
    decodeAck b0 b1 b2 b3 b4 ≠ none ↔
      (b0 = 0x33#8 ∧ b1 = 0x75#8 ∧ b2 = 0x02#8 ∧ b3 = 0x00#8 ∧ b4 = 0x00#8) ∨
      (b0 = 0x22#8 ∧ b1 = 0x61#8 ∧ b2 = 0x41#8 ∧ b4 = 0x00#8) ∨
      (b0 = 0x22#8 ∧ b1 = 0x62#8 ∧ b2 = 0x48#8 ∧ b4 = 0x00#8) := by
  unfold decodeAck
  split_ifs <;> simp [*]

/-- The listed acks are the ack rows' bytes that declare an empty payload, with nothing after them
(log entry 7). -/
theorem readsAsAck_iff {b0 b1 b2 b3 b4 : Byte} {body : Bytes} :
    readsAsAck b0 b1 b2 b3 b4 body = true ↔
      body = [] ∧ decodeAck b0 b1 b2 b3 b4 ≠ none ∧ declaredLength b3 b4 = 0 := by
  rw [declaredLength_eq_zero_iff, decodeAck_ne_none_iff]
  simp only [readsAsAck, decide_eq_true_iff, List.mem_cons, List.not_mem_nil, or_false,
    List.cons_append, List.nil_append, List.cons.injEq]
  tauto

/-- What the module sends is read as an ack, or else as an envelope (log entry 7). -/
theorem decodeFromModule_cases (b0 b1 b2 b3 b4 : Byte) (body : Bytes) :
    (∃ i, body = [] ∧ decodeAck b0 b1 b2 b3 b4 = some i ∧
      decodeFromModule b0 b1 b2 b3 b4 body = .instr i) ∨
    ((body ≠ [] ∨ decodeAck b0 b1 b2 b3 b4 = none) ∧
      decodeFromModule b0 b1 b2 b3 b4 body = decodeEnvelope b0 b1 b2 b3 b4 body) := by
  unfold decodeFromModule
  split
  next i hi => exact .inl ⟨i, rfl, hi, rfl⟩
  next hn =>
    exact .inr ⟨or_iff_not_imp_left.2 fun hb => Option.eq_none_iff_forall_ne_some.2
      fun i => hn i (not_not.1 hb), rfl⟩

theorem decodeEnvelope_instr_iff {b0 b1 b2 b3 b4 : Byte} {body : Bytes} {i : Instr} :
    decodeEnvelope b0 b1 b2 b3 b4 body = .instr i ↔
      declaredLength b3 b4 ≤ body.length ∧ .responseEnvelope b0 b1 b2 b3 b4 body = i := by
  unfold decodeEnvelope
  split <;> simp_all

theorem wellFormed_envelope_iff {b0 b1 b2 b3 b4 : Byte} {body : Bytes} :
    wellFormed (.responseEnvelope b0 b1 b2 b3 b4 body) = true ↔
      declaredLength b3 b4 ≤ body.length ∧ ¬readsAsAck b0 b1 b2 b3 b4 body = true := by
  simp [wellFormed, bodyHoldsPayload_iff]

theorem decodeFromModule_instr {b0 b1 b2 b3 b4 : Byte} {body : Bytes} {i : Instr}
    (h : decodeFromModule b0 b1 b2 b3 b4 body = .instr i) :
    encode i = b0 :: b1 :: b2 :: b3 :: b4 :: body ∧ wellFormed i = true := by
  rcases decodeFromModule_cases b0 b1 b2 b3 b4 body with ⟨j, rfl, ha, hj⟩ | ⟨hn, he⟩
  · cases hj.symm.trans h
    exact decodeAck_some ha
  · obtain ⟨hl, rfl⟩ := decodeEnvelope_instr_iff.1 (he.symm.trans h)
    refine ⟨rfl, wellFormed_envelope_iff.2 ⟨hl, fun hr => ?_⟩⟩
    obtain ⟨hb, ha, _⟩ := readsAsAck_iff.1 hr
    exact hn.elim (absurd hb) ha

/-- A well-formed envelope is never taken for an ack: with no body it declares no payload, so an ack
it reads as would be one of those that `readsAsAck` lists. -/
theorem decodeFromModule_envelope {b0 b1 b2 b3 b4 : Byte} {body : Bytes}
    (h : wellFormed (.responseEnvelope b0 b1 b2 b3 b4 body) = true) :
    decodeFromModule b0 b1 b2 b3 b4 body = .instr (.responseEnvelope b0 b1 b2 b3 b4 body) := by
  obtain ⟨hl, hr⟩ := wellFormed_envelope_iff.1 h
  rcases decodeFromModule_cases b0 b1 b2 b3 b4 body with ⟨i, rfl, ha, _⟩ | ⟨_, he⟩
  · have hsome : decodeAck b0 b1 b2 b3 b4 ≠ none := Option.ne_none_iff_exists'.2 ⟨i, ha⟩
    exact absurd (readsAsAck_iff.2 ⟨rfl, hsome, Nat.le_zero.1 hl⟩) hr
  · exact he.trans (decodeEnvelope_instr_iff.2 ⟨hl, rfl⟩)

/-! ### The round trips -/

/-- Settles O1: by the rows. Only a brightness frame and an envelope need that they are well
formed. -/
theorem encodedInstructionsDecodeBack : Obligations.EncodedInstructionsDecodeBack := by
  intro i hwf
  cases i with
  | setFillLightBrightnessFrame b =>
    exact (decodeFrame4_brightness b).trans (if_pos (brightnessInRange_iff.1 hwf))
  | responseEnvelope h0 h1 h2 hi lo body => exact decodeFromModule_envelope hwf
  | _ => rfl

/-- Settles O2: by the number of bytes, which chooses the part of the decoder. -/
theorem decodedBytesEncodeBack : Obligations.DecodedBytesEncodeBack := by
  intro bs i h
  match bs, h with
  | [b], h =>
    obtain ⟨hb, rfl⟩ := decodeSelect_instr_iff.1 h
    exact ⟨by rw [encode_decodeOpsel, setWidth_opcode_of_lt hb], wellFormed_decodeOpsel _⟩
  | [_, _, _], h => exact decodeFrame3_instr h
  | [_, _, _, _], h => exact decodeFrame4_instr h
  | _ :: _ :: _ :: _ :: _ :: _, h => exact decodeFromModule_instr h

/-- Settles O3: the instructions' words are encodings, and 0x65 is above the greatest brightness. -/
theorem writtenOutWordsDecodeToTheirRows : Obligations.WrittenOutWordsDecodeToTheirRows :=
  ⟨encodedInstructionsDecodeBack .execute rfl,
    encodedInstructionsDecodeBack .poll rfl,
    encodedInstructionsDecodeBack .setFillLightBrightness rfl,
    encodedInstructionsDecodeBack .reservedE rfl,
    encodedInstructionsDecodeBack .startDecodeFrame rfl,
    encodedInstructionsDecodeBack (.setTriggerModeFrame 0x03#8) rfl,
    encodedInstructionsDecodeBack (.setFillLightBrightnessFrame 0x64#8) (by decide),
    (decodeFrame4_brightness 0x65#8).trans (if_neg (by decide)),
    encodedInstructionsDecodeBack (.getInfosFrame 0xC1#8) rfl,
    encodedInstructionsDecodeBack .stopDecodeAck rfl,
    encodedInstructionsDecodeBack (.setTriggerModeAck 0x03#8) rfl,
    encodedInstructionsDecodeBack
      (.responseEnvelope 0x22#8 0x43#8 0x02#8 0x00#8 0x03#8 [0x41#8, 0x42#8, 0x43#8])
      (by decide)⟩

end Sys2Proof
end

section
/-! PROOFS, family 30_encoding: the length an envelope declares and the payload it holds (O20), the
step that runs an instruction (O4), the reserved codes (O33) and the frame rows (O34). -/

namespace Sys2Proof.Machine

/-! ### The envelope's payload -/

/-- The two big-endian length bytes of a number declare it (R46). -/
theorem declaredLength_ofNat {n : Nat} (h : n < 65536) :
    declaredLength (BitVec.ofNat 8 (n / 256)) (BitVec.ofNat 8 (n % 256)) = n := by
  simp only [declaredLength, BitVec.toNat_ofNat]
  omega

theorem payloadOf_envelope (h0 h1 h2 : Byte) {payload : Bytes} (trailing : Bytes)
    (h : payload.length < 65536) :
    payloadOf ([h0, h1, h2, BitVec.ofNat 8 (payload.length / 256),
      BitVec.ofNat 8 (payload.length % 256)] ++ payload ++ trailing) =
    (BitVec.ofNat 16 payload.length, true) := by
  have hfits : payload.length ≤ (payload ++ trailing).length := by simp
  simp only [List.cons_append, List.nil_append]
  rw [payloadOf_header, declaredLength_ofNat h, if_pos hfits]

/-- `INFO_TEXT` needs no case of its own for an empty payload. -/
theorem State.infoText_eq (s : State) : s.infoText = (s.respBuf.drop 5).take s.paySize.toNat := by
  unfold State.infoText
  split
  next h => simp [h]
  next => rfl

theorem exec_extractPayload {s : State} (hs : s.seq = .idle) :
    exec .extractPayload s = .next (s.setOpsel 0x3#4).extractPayload.complete :=
  issue_idle (seg := fun s => s.extractPayload.complete) hs

/-- Settles O20: the size is the declared length, and so the text is the payload. -/
theorem envelopePayloadComesOutWhole : Obligations.EnvelopePayloadComesOutWhole := by
  intro s h0 h1 h2 payload trailing hs hlen hbuf
  have hpay : payloadOf s.respBuf = (BitVec.ofNat 16 payload.length, true) := by
    rw [hbuf, payloadOf_envelope h0 h1 h2 trailing hlen]
  have hsize : (payloadOf s.respBuf).1.toNat = payload.length := by
    rw [hpay, BitVec.toNat_ofNat, Nat.mod_eq_of_lt hlen]
  refine ⟨_, exec_extractPayload hs, hsize, congrArg Prod.snd hpay, ?_⟩
  calc ((s.setOpsel 0x3#4).extractPayload.complete).infoText
      = (s.respBuf.drop 5).take (payloadOf s.respBuf).1.toNat := State.infoText_eq _
    _ = payload := by rw [hsize, hbuf]; simp

/-! ### A step that runs an instruction -/

theorem step_of_instr {s : State} {bs : Bytes} {rest : List Event}
    (he : s.events = .instr bs :: rest) : step s = runBytes bs (s.withEvents rest) := by
  simp only [step, he]

theorem runBytes_of_instr {bs : Bytes} {i : Instr} (h : decode bs = .instr i) (s : State) :
    runBytes bs s = exec i s := by
  simp only [runBytes, h]

theorem runBytes_of_rejected {bs : Bytes} {e : DecodeError} (h : decode bs = .rejected e)
    (s : State) : runBytes bs s = .refused (.undecodable e) := by
  simp only [runBytes, h]

/-- Settles O4: the next action is run as its bytes decode. -/
theorem stepRunsTheDecodedInstruction : Obligations.StepRunsTheDecodedInstruction :=
  fun _ _ _ he =>
    ⟨fun _ hd => (step_of_instr he).trans (runBytes_of_instr hd _),
      fun _ hd => (step_of_instr he).trans (runBytes_of_rejected hd _)⟩

/-! ### Completing from `IDLE` -/

theorem State.complete_of_idle {s : State} (h : s.seq = .idle) : s.complete = s := by
  cases s; cases h; rfl

theorem State.report_of_idle {s : State} (h : s.seq = .idle) (r : CmdResult) :
    s.report r = { s with result := r, resultValid := true } :=
  State.complete_of_idle (s := { s with result := r, resultValid := true }) h

/-! ### The reserved codes -/

theorem issue_reserved {s : State} (hs : s.seq = .idle) (c : OpCode) :
    issue c reservedIssue s =
      .next { s with opsel := c, result := .invalidParam, resultValid := true } :=
  (issue_idle hs).trans
    (congrArg Host.Outcome.next (State.report_of_idle (s := s.setOpsel c) hs .invalidParam))

/-- Settles O33: all three codes issue the one reserved segment. -/
theorem reservedCodesReportInvalidParam : Obligations.ReservedCodesReportInvalidParam :=
  fun _ hs => ⟨issue_reserved hs 0x0#4, issue_reserved hs 0xE#4, issue_reserved hs 0xF#4⟩

/-! ### The issue segments, by what decides them -/

theorem executeIssue_of_unbound {s : State} (hb : s.bound = false) :
    executeIssue s = s.report .invalidParam := by
  simp [executeIssue, hb]

theorem executeIssue_of_no_ack {s : State} (hb : s.bound = true) (hf : s.frame ≠ [])
    (ha : s.ack = []) : executeIssue s = (s.rxDrain.txWrite s.frame).report .success := by
  simp [executeIssue, hb, hf, ha]

theorem executeIssue_of_ack {s : State} (hb : s.bound = true) (hf : s.frame ≠ [])
    (ha : s.ack ≠ []) : executeIssue s = (s.rxDrain.txWrite s.frame).sleep .exSettle := by
  simp [executeIssue, hb, hf, ha]

theorem getInfoIssue_of_unbound {s : State} (hb : s.bound = false) :
    getInfoIssue s = s.clearInfo.complete := by
  simp [getInfoIssue, hb]

theorem getInfoIssue_of_bound {s : State} (hb : s.bound = true) :
    getInfoIssue s = (s.rxDrain.txWrite (getInfosFrame s.param)).sleep .giSettle := by
  simp [getInfoIssue, hb]

/-! ### What each frame row issues -/

/-- The clamp leaves a brightness that is in range (R64, R102). -/
theorem clampBrightness_of_le {b : Byte} (h : b.toNat ≤ 100) : clampBrightness b = b := by
  have hint : clampBrightnessInt b.toNat = b.toNat := by
    unfold clampBrightnessInt Config.brightnessMax
    omega
  rw [clampBrightness, hint, BitVec.ofInt_natCast, BitVec.ofNat_toNat, BitVec.setWidth_eq]

theorem exec_startDecodeFrame {s : State} (hs : s.seq = .idle) :
    exec .startDecodeFrame s =
      .next (executeIssue (s.setOperands 0x8#4 s.param startDecodeFrame [] 1000#32)) :=
  issue_idle (seg := startDecodeIssue) hs

theorem exec_stopDecodeFrame {s : State} (hs : s.seq = .idle) :
    exec .stopDecodeFrame s =
      .next (executeIssue (s.setOperands 0x9#4 s.param stopDecodeFrame stopDecodeAck 150#32)) :=
  issue_idle (seg := stopDecodeIssue) hs

theorem exec_setTriggerModeFrame {s : State} (hs : s.seq = .idle) (m : Byte) :
    exec (.setTriggerModeFrame m) s =
      .next (executeIssue
        (s.setOperands 0xA#4 m (setTriggerModeFrame m) (setTriggerModeAck m) 200#32)) :=
  issue_idle (seg := fun s => setTriggerModeIssue (s.setParam m)) hs

theorem exec_setFillLightBrightnessFrame {s : State} (hs : s.seq = .idle) {b : Byte}
    (hb : b.toNat ≤ 100) :
    exec (.setFillLightBrightnessFrame b) s =
      .next (executeIssue (s.setOperands 0xB#4 b (fillLightFrame b) (fillLightAck b) 100#32)) := by
  have hissue : exec (.setFillLightBrightnessFrame b) s =
      .next (executeIssue (s.setOperands 0xB#4 b (fillLightFrame (clampBrightness b))
        (fillLightAck (clampBrightness b)) 100#32)) :=
    issue_idle (seg := fun s => fillLightIssue (s.setParam b)) hs
  rwa [clampBrightness_of_le hb] at hissue

theorem exec_getInfosFrame {s : State} (hs : s.seq = .idle) (id : Byte) :
    exec (.getInfosFrame id) s = .next (getInfoIssue ((s.setOpsel 0x4#4).setParam id)) :=
  issue_idle (seg := getInfoOf id) hs

/-! ### The frame rows' next states -/

/-- Bound, and an ack is awaited: the frame is sent and the settle delay starts (R75). -/
theorem executeIssue_setOperands_ack {s : State} (hb : s.bound = true) (c : OpCode) (p : Byte)
    {f a : Bytes} (w : Millis) (hf : f ≠ []) (ha : a ≠ []) :
    executeIssue (s.setOperands c p f a w) =
      { s with
        opsel := c, param := p, frame := f, ack := a, timeout := w, rxq := [],
        txlog := s.txlog ++ [f], tMark := s.now, seq := .exSettle } :=
  executeIssue_of_ack (s := s.setOperands c p f a w) hb hf ha

/-- Bound, and no ack is awaited: the frame is sent and that is the success (R75). -/
theorem executeIssue_setOperands_no_ack {s : State} (hs : s.seq = .idle) (hb : s.bound = true)
    (c : OpCode) (p : Byte) {f : Bytes} (w : Millis) (hf : f ≠ []) :
    executeIssue (s.setOperands c p f [] w) =
      { s with
        opsel := c, param := p, frame := f, ack := [], timeout := w, rxq := [],
        txlog := s.txlog ++ [f], result := .success, resultValid := true } :=
  (executeIssue_of_no_ack (s := s.setOperands c p f [] w) hb hf rfl).trans
    (State.report_of_idle (s := (s.setOperands c p f [] w).rxDrain.txWrite f) hs .success)

/-- Unbound: the operands are written and nothing is sent (R75, R98). -/
theorem executeIssue_setOperands_unbound {s : State} (hs : s.seq = .idle) (hb : s.bound = false)
    (c : OpCode) (p : Byte) (f a : Bytes) (w : Millis) :
    executeIssue (s.setOperands c p f a w) =
      { s with
        opsel := c, param := p, frame := f, ack := a, timeout := w,
        result := .invalidParam, resultValid := true } :=
  (executeIssue_of_unbound (s := s.setOperands c p f a w) hb).trans
    (State.report_of_idle (s := s.setOperands c p f a w) hs .invalidParam)

/-- Bound, the query is sent and its settle delay starts (R89). -/
theorem getInfoIssue_query_bound {s : State} (hb : s.bound = true) (c : OpCode) (id : Byte) :
    getInfoIssue ((s.setOpsel c).setParam id) =
      { s with
        opsel := c, param := id, rxq := [], txlog := s.txlog ++ [getInfosFrame id],
        tMark := s.now, seq := .giSettle } :=
  getInfoIssue_of_bound (s := (s.setOpsel c).setParam id) hb

/-- Unbound, the query empties its outputs (R95). -/
theorem getInfoIssue_query_unbound {s : State} (hs : s.seq = .idle) (hb : s.bound = false)
    (c : OpCode) (id : Byte) :
    getInfoIssue ((s.setOpsel c).setParam id) =
      { s with opsel := c, param := id, respBuf := [], paySize := 0#16, payValid := false } :=
  (getInfoIssue_of_unbound (s := (s.setOpsel c).setParam id) hb).trans
    (State.complete_of_idle (s := ((s.setOpsel c).setParam id).clearInfo) hs)

/-- Settles O34: every row but the query writes its operands and issues an Execute, the query issues
GetInfo; each by what decides its segment. -/
theorem frameRowsSendTheirFrames : Obligations.FrameRowsSendTheirFrames := by
  intro s p hs
  refine ⟨fun hb => ⟨?start, ?stop, ?trigger, fun hp => ?light, ?query⟩,
    fun hb => ⟨?startUnbound, ?stopUnbound, ?triggerUnbound, fun hp => ?lightUnbound,
      ?queryUnbound⟩⟩
  case start =>
    exact (exec_startDecodeFrame hs).trans (congrArg _
      (executeIssue_setOperands_no_ack hs hb _ _ _ (List.cons_ne_nil _ _)))
  case stop =>
    exact (exec_stopDecodeFrame hs).trans (congrArg _
      (executeIssue_setOperands_ack hb _ _ _ (List.cons_ne_nil _ _) (List.cons_ne_nil _ _)))
  case trigger =>
    exact (exec_setTriggerModeFrame hs p).trans (congrArg _
      (executeIssue_setOperands_ack hb _ _ _ (List.cons_ne_nil _ _) (List.cons_ne_nil _ _)))
  case light =>
    exact (exec_setFillLightBrightnessFrame hs hp).trans (congrArg _
      (executeIssue_setOperands_ack hb _ _ _ (List.cons_ne_nil _ _) (List.cons_ne_nil _ _)))
  case query =>
    exact (exec_getInfosFrame hs p).trans (congrArg _ (getInfoIssue_query_bound hb _ p))
  case startUnbound =>
    exact (exec_startDecodeFrame hs).trans (congrArg _
      (executeIssue_setOperands_unbound hs hb _ _ _ _ _))
  case stopUnbound =>
    exact (exec_stopDecodeFrame hs).trans (congrArg _
      (executeIssue_setOperands_unbound hs hb _ _ _ _ _))
  case triggerUnbound =>
    exact (exec_setTriggerModeFrame hs p).trans (congrArg _
      (executeIssue_setOperands_unbound hs hb _ _ _ _ _))
  case lightUnbound =>
    exact (exec_setFillLightBrightnessFrame hs hp).trans (congrArg _
      (executeIssue_setOperands_unbound hs hb _ _ _ _ _))
  case queryUnbound =>
    exact (exec_getInfosFrame hs p).trans (congrArg _ (getInfoIssue_query_unbound hs hb _ p))

end Sys2Proof.Machine
end

section
/-! PROOFS, family 40_engine: the clock (O8), the samples of Execute (O14, O15) and of WaitResponse
(O17, O18, O24, O25). Each sample is said once as an equation; a wake's statement is that equation
at the state the wake samples. -/

namespace Sys2Proof.Machine

/-! ### The clock -/

theorem tick_iterate_now (s : State) (n : Nat) :
    (State.tick^[n] s).now = s.now + BitVec.ofNat 32 n := by
  induction n with
  | zero => simp
  | succ n ih =>
    rw [Function.iterate_succ_apply', State.tick_now, ih, BitVec.add_assoc]
    exact congrArg _ (BitVec.ofNat_add n 1).symm

/-- Settles O8: `elapsed` is the difference modulo 2^32, and `n` ticks add `n` to the clock. -/
theorem elapsedCountsMillisecondsAcrossTheWrap :
    Obligations.ElapsedCountsMillisecondsAcrossTheWrap := by
  constructor
  · intro s t
    have := t.isLt
    rw [State.elapsed, BitVec.toNat_sub]
    congr 1
    omega
  · intro s n hn
    have hdiff : s.now + BitVec.ofNat 32 n - s.now = BitVec.ofNat 32 n := by bv_omega
    rw [State.elapsed, tick_iterate_now, hdiff, BitVec.toNat_ofNat, Nat.mod_eq_of_lt hn]

/-- A window that starts now has run out only if it has no length. -/
theorem window_of_start_run_out_iff (now d : Millis) : d.toNat ≤ (now - now).toNat ↔ d = 0#32 := by
  simp [← BitVec.toNat_inj]

/-! ### A sleep that goes on, and a wake that is due -/

/-- Sleeping again in the state the sequencer dwells in starts the new sleep and no more. -/
theorem State.sleep_of_seq {s : State} {q : Seq} (h : s.seq = q) :
    s.sleep q = { s with tMark := s.now } := by
  cases s; cases h; rfl

/-- At the sequencer's turn a due wake is the step. -/
theorem step_wake_of_due {s : State} {rest : List Event} {q : Seq} (he : s.events = .wake :: rest)
    (hs : s.seq = q) (hq : q ≠ .idle) (hd : dwellMs q ≤ (s.now - s.tMark).toNat) :
    step s = .next (wake (s.withEvents rest)) := by
  subst hs
  exact (step_of_wake he).trans
    (congrArg _ (wakeIfDue_of_enabled ((s.withEvents rest).wakeEnabled_iff.2 ⟨hq, hd⟩)))

/-! ### Execute's sample -/

/-- Execute's sample, bytes before time (R77, R122). -/
theorem executeSample_eq (s : State) : executeSample s =
    if s.ack.length ≤ s.rxq.length then
      { s with
        rxq := s.rxq.drop s.ack.length, compareLatch := s.rxq.take s.ack.length,
        result := if s.rxq.take s.ack.length = s.ack then .success else .ackMismatch,
        resultValid := true, seq := .idle }
    else if s.timeout.toNat ≤ s.elapsed s.tStart then s.report .timeout
    else s.sleep .exWait := by
  rcases executeSample_cases s with ⟨hl, hc, h⟩ | ⟨hl, hc, h⟩ | ⟨hl, ht, h⟩ | ⟨hl, ht, h⟩ <;> rw [h]
  · rw [if_pos hl, if_pos hc]; rfl
  · rw [if_pos hl, if_neg hc]; rfl
  · rw [if_neg hl.not_ge, if_pos ht]
  · rw [if_neg hl.not_ge, if_neg ht.not_ge]

/-- Settles O14: the sample of the settle wake, whose window starts now, so that only a timeout of 0
has run out. -/
theorem settleWakeTakesTheFirstSample : Obligations.SettleWakeTakesTheFirstSample := by
  intro s rest he hq hd
  rw [step_wake_of_due he hq (by decide) hd,
    wake_of_exSettle (s := s.withEvents rest) hq, executeSample_eq]
  congr 2
  exact if_congr (window_of_start_run_out_iff s.now s.timeout) rfl rfl

/-- Settles O15: the sample of the later wakes, which goes on sleeping in `EX_WAIT`. -/
theorem waitWakeTakesTheNextSample : Obligations.WaitWakeTakesTheNextSample := by
  intro s rest he hq hd
  rw [step_wake_of_due he hq (by decide) hd,
    wake_of_exWait (s := s.withEvents rest) hq, executeSample_eq,
    State.sleep_of_seq (s := s.withEvents rest) hq]
  rfl

/-! ### WaitResponse's sample -/

theorem readBurst_eq (s : State) : s.readBurst = { s with respBuf := s.rxq, rxq := [] } := by
  simp [State.readBurst, State.rxHead, State.rxRead, State.rxAvail]

/-- The end of GetInfo's wait (R91). -/
theorem waitFinish_of_getInfo {s : State} (hc : s.ctx = .getInfo) :
    waitFinish s = s.extractPayload.complete := by
  simp [waitFinish, hc]

/-- WaitResponse's sample, bytes before time (R84). -/
theorem waitSample_eq (s : State) : waitSample s =
    if s.rxq ≠ [] then waitFinish { s with respBuf := s.rxq, rxq := [] }
    else if s.waitTimeout ≤ s.elapsed s.tStart then waitFinish s
    else s.sleep .wrWait := by
  rcases waitSample_cases s with ⟨hq, h⟩ | ⟨hq, ht, h⟩ | ⟨hq, ht, h⟩ <;> rw [h]
  · rw [if_pos hq, readBurst_eq]
  · rw [if_neg (not_not.2 hq), if_pos ht]
  · rw [if_neg (not_not.2 hq), if_neg ht.not_ge]

/-- The sample of the host's own wait, whose end changes nothing more (R84). -/
theorem waitSample_of_host {s : State} (hc : s.ctx = .host) : waitSample s =
    if s.rxq ≠ [] then { s with respBuf := s.rxq, rxq := [], seq := .idle }
    else if s.timeout.toNat ≤ s.elapsed s.tStart then s.complete
    else s.sleep .wrWait := by
  have htime : s.waitTimeout = s.timeout.toNat := by simp [State.waitTimeout, hc]
  rw [waitSample_eq, waitFinish_of_host hc, htime,
    waitFinish_of_host (s := { s with respBuf := s.rxq, rxq := [] }) hc]
  rfl

/-- The sample of GetInfo's wait, whose end extracts the payload (R84, R91). -/
theorem waitSample_of_getInfo {s : State} (hc : s.ctx = .getInfo) : waitSample s =
    if s.rxq ≠ [] then
      { s with
        respBuf := s.rxq, rxq := [], paySize := (payloadOf s.rxq).1,
        payValid := (payloadOf s.rxq).2, seq := .idle }
    else if 1000 ≤ s.elapsed s.tStart then s.extractPayload.complete
    else s.sleep .wrWait := by
  have htime : s.waitTimeout = 1000 := by
    simp [State.waitTimeout, hc, Config.defaultTimeoutMs]
  rw [waitSample_eq, waitFinish_of_getInfo hc, htime,
    waitFinish_of_getInfo (s := { s with respBuf := s.rxq, rxq := [] }) hc]
  rfl

/-! ### WaitResponse's issue and its wakes -/

theorem exec_waitResponse {s : State} (hs : s.seq = .idle) :
    exec .waitResponse s = .next (waitIssue (s.setOpsel 0x2#4)) := issue_idle hs

theorem waitIssue_of_unbound {s : State} (hb : s.bound = false) :
    waitIssue s = s.clearResp.complete := by
  simp [waitIssue, hb]

theorem waitIssue_of_bound {s : State} (hb : s.bound = true) :
    waitIssue s = waitSample (s.beginWait .host) := by
  simp [waitIssue, hb]

/-- Settles O17: unbound, the cleared buffer; bound, the host's sample in a window that starts now,
so that only a timeout of 0 has run out. Where it ends the block stays idle. -/
theorem waitResponseSamplesAtOnce : Obligations.WaitResponseSamplesAtOnce := by
  intro s hs
  rw [exec_waitResponse hs]
  congr 1
  by_cases hb : s.bound = false
  · rw [if_pos hb, waitIssue_of_unbound (s := s.setOpsel 0x2#4) hb]
    exact State.complete_of_idle (s := (s.setOpsel 0x2#4).clearResp) hs
  · have hbound : s.bound = true := by simpa using hb
    rw [if_neg hb, waitIssue_of_bound (s := s.setOpsel 0x2#4) hbound, waitSample_of_host rfl]
    exact if_congr Iff.rfl
      (State.complete_of_idle
        (s := { (s.setOpsel 0x2#4).beginWait .host with respBuf := s.rxq, rxq := [] }) hs)
      (if_congr (window_of_start_run_out_iff s.now s.timeout)
        (State.complete_of_idle (s := (s.setOpsel 0x2#4).beginWait .host) hs) rfl)

/-- Settles O18: the host's sample, which goes on sleeping in `WR_WAIT`. -/
theorem hostWaitTakesTheNextSample : Obligations.HostWaitTakesTheNextSample := by
  intro s rest he hq hc hd
  rw [step_wake_of_due he hq (by decide) hd,
    wake_of_wrWait (s := s.withEvents rest) hq, waitSample_of_host (s := s.withEvents rest) hc,
    State.sleep_of_seq (s := s.withEvents rest) hq]
  rfl

/-- Settles O24: GetInfo's sample in a window that starts now, so that 1000 ms have not passed. -/
theorem infoSettleWakeTakesTheFirstSample : Obligations.InfoSettleWakeTakesTheFirstSample := by
  intro s rest he hq hd
  rw [step_wake_of_due he hq (by decide) hd,
    wake_of_giSettle (s := s.withEvents rest) hq, waitSample_of_getInfo rfl]
  have hopen : ¬1000 ≤ (s.now - s.now).toNat := by simp
  congr 2
  exact if_neg hopen

/-- Settles O25: GetInfo's sample, which goes on sleeping in `WR_WAIT`. -/
theorem infoWaitTakesTheNextSample : Obligations.InfoWaitTakesTheNextSample := by
  intro s rest he hq hc hd
  rw [step_wake_of_due he hq (by decide) hd,
    wake_of_wrWait (s := s.withEvents rest) hq, waitSample_of_getInfo (s := s.withEvents rest) hc,
    State.sleep_of_seq (s := s.withEvents rest) hq]
  rfl

end Sys2Proof.Machine
end

section
/-! PROOFS, family 40_engine: the issue segments (O11, O12, O19, O21, O26), Execute's buffers (O16),
the sequencer's transitions (O45) and the unbound block (O46). -/

namespace Sys2Proof.Machine

/-! ### Execute -/

theorem exec_execute {s : State} (hs : s.seq = .idle) :
    exec .execute s = .next (executeIssue (s.setOpsel 0x1#4)) := issue_idle hs

/-- Settles O11: Execute's issue with no ack, from `IDLE`. -/
theorem executeWithoutAckSucceedsAtOnce : Obligations.ExecuteWithoutAckSucceedsAtOnce := by
  intro s hs hb hf ha
  rw [exec_execute hs, executeIssue_of_no_ack (s := s.setOpsel 0x1#4) hb hf ha]
  exact congrArg _
    (State.report_of_idle (s := (s.setOpsel 0x1#4).rxDrain.txWrite s.frame) hs .success)

/-- Settles O12: Execute's issue with an ack to wait for. -/
theorem executeWithAckStartsTheSettleDelay : Obligations.ExecuteWithAckStartsTheSettleDelay := by
  intro s hs hb hf ha
  rw [exec_execute hs, executeIssue_of_ack (s := s.setOpsel 0x1#4) hb hf ha]
  rfl

/-- The buffers the host reads payloads and scans from are as they were (R78). -/
def SameBuffers (s t : State) : Prop :=
  t.respBuf = s.respBuf ∧ t.paySize = s.paySize ∧ t.payValid = s.payValid ∧
    t.scanResult = s.scanResult

theorem executeIssue_buffers (s : State) : SameBuffers s (executeIssue s) := by
  obtain ⟨_, _, _, _, _, _, h⟩ := executeIssue_writes s
  rw [h]; exact ⟨rfl, rfl, rfl, rfl⟩

theorem executeSample_buffers (s : State) : SameBuffers s (executeSample s) := by
  obtain ⟨_, _, _, _, _, _, h⟩ := executeSample_writes s
  rw [h]; exact ⟨rfl, rfl, rfl, rfl⟩

theorem executeSample_compareLatch (s : State) :
    (executeSample s).compareLatch = s.compareLatch ∨
      (executeSample s).compareLatch = s.rxq.take s.ack.length := by
  rcases executeSample_cases s with ⟨_, _, h⟩ | ⟨_, _, h⟩ | ⟨_, _, h⟩ | ⟨_, _, h⟩ <;> simp [h]

/-- Both wakes of an Execute are its sample, the first with a new window (R76, R77). -/
theorem wake_of_awaitsAck {s : State} (h : s.awaitsAck) :
    wake s = executeSample s.startWindow ∨ wake s = executeSample s :=
  h.imp wake_of_exSettle wake_of_exWait

/-- Settles O16: by the fields that Execute's issue and its sample write. -/
theorem executeLeavesTheBuffers : Obligations.ExecuteLeavesTheBuffers := by
  constructor
  · intro s t h
    obtain ⟨_, rfl⟩ := issue_next_iff.1 h
    exact executeIssue_buffers (s.setOpsel 0x1#4)
  · intro s t rest ha he h
    rcases step_wake_next_cases he h with rfl | rfl
    · rcases wake_of_awaitsAck (s := s.withEvents rest) ha with hw | hw <;> rw [hw]
      · obtain ⟨hr, hp, hv, hn⟩ := executeSample_buffers (s.withEvents rest).startWindow
        exact ⟨hr, hp, hv, hn, executeSample_compareLatch (s.withEvents rest).startWindow⟩
      · obtain ⟨hr, hp, hv, hn⟩ := executeSample_buffers (s.withEvents rest)
        exact ⟨hr, hp, hv, hn, executeSample_compareLatch (s.withEvents rest)⟩
    · exact ⟨rfl, rfl, rfl, rfl, .inl rfl⟩

/-! ### ExtractPayload -/

theorem payloadOf_of_no_header {bs : Bytes} (h : bs.length < 5) : payloadOf bs = (0#16, false) := by
  match bs, h with
  | [], _ | [_], _ | [_, _], _ | [_, _, _], _ | [_, _, _, _], _ => rfl

/-- ExtractPayload on a buffer that has its length bytes (R87). -/
theorem payloadOf_of_header {bs : Bytes} (h : 5 ≤ bs.length) : payloadOf bs =
    if 5 + declaredLength bs[3] bs[4] ≤ bs.length
    then (BitVec.ofNat 16 (declaredLength bs[3] bs[4]), true) else (0#16, false) := by
  match bs, h with
  | b0 :: b1 :: b2 :: hi :: lo :: body, _ =>
    rw [payloadOf_header]
    refine if_congr ?_ rfl rfl
    simp only [List.getElem_cons_succ, List.getElem_cons_zero, List.length_cons]
    omega

/-- Settles O19: by whether the buffer has its length bytes, and then by whether it holds what they
declare. -/
theorem extractPayloadValidatesTheLength : Obligations.ExtractPayloadValidatesTheLength := by
  intro s hs
  refine ⟨_, exec_extractPayload hs, ?next, fun hlen => ?noHeader, fun hlen L hL => ?header, ?text⟩
  case next => exact State.complete_of_idle (s := (s.setOpsel 0x3#4).extractPayload) hs
  case noHeader =>
    have hpay := payloadOf_of_no_header hlen
    exact ⟨congrArg Prod.fst hpay, congrArg Prod.snd hpay⟩
  case header =>
    have hdecl : declaredLength s.respBuf[3] s.respBuf[4] = L := hL.symm
    have hpay := payloadOf_of_header hlen
    rw [hdecl] at hpay
    constructor
    · intro hshort
      rw [if_neg hshort.not_ge] at hpay
      exact ⟨congrArg Prod.fst hpay, congrArg Prod.snd hpay⟩
    · intro hfits
      have hlt : L < 65536 := hdecl ▸ declaredLength_lt _ _
      rw [if_pos hfits] at hpay
      refine ⟨?_, congrArg Prod.snd hpay⟩
      calc (payloadOf s.respBuf).1.toNat = (BitVec.ofNat 16 L).toNat := by rw [hpay]
        _ = L := by rw [BitVec.toNat_ofNat, Nat.mod_eq_of_lt hlt]
  case text => exact State.infoText_eq _

/-! ### GetInfo and cmdResultToString -/

theorem exec_getInfo {s : State} (hs : s.seq = .idle) :
    exec .getInfo s = .next (getInfoIssue (s.setOpsel 0x4#4)) := issue_idle hs

/-- Settles O21: GetInfo's issue is the query with the id that `PARAM` holds. -/
theorem getInfoSendsItsQuery : Obligations.GetInfoSendsItsQuery := fun s hs =>
  ⟨fun hb => (exec_getInfo hs).trans (congrArg _ (getInfoIssue_query_bound hb 0x4#4 s.param)),
    fun hb => (exec_getInfo hs).trans
      (congrArg _ (getInfoIssue_query_unbound hs hb 0x4#4 s.param))⟩

theorem exec_resultName {s : State} (hs : s.seq = .idle) :
    exec .resultName s = .next (resultNameIssue (s.setOpsel 0x6#4)) := issue_idle hs

/-- The result a code of two bits names, by the number the code is (R66). -/
theorem resultOfCode_setWidth (p : Byte) : resultOfCode (p.setWidth 2) =
    if p.toNat % 4 = 0 then .success
    else if p.toNat % 4 = 1 then .invalidParam
    else if p.toNat % 4 = 2 then .timeout
    else .ackMismatch := by
  have hcode : (p.setWidth 2).toNat = p.toNat % 4 := BitVec.toNat_setWidth 2 p
  unfold resultOfCode
  rw [hcode]
  split <;> simp_all

/-- Settles O26: the names stand in `resultName`, the codes in `resultOfCode`. -/
theorem resultNameIsTheEnumeratorsName : Obligations.ResultNameIsTheEnumeratorsName := by
  intro s hs
  have hidle := State.complete_of_idle
    (s := (s.setOpsel 0x6#4).setName (resultName (resultOfCode (s.param.setWidth 2)))) hs
  rw [exec_resultName hs]
  refine congrArg _ (hidle.trans ?_)
  rw [resultOfCode_setWidth, apply_ite resultName, apply_ite resultName, apply_ite resultName]
  rfl

/-! ### The sequencer's transitions -/

theorem seqStep_self (q : Seq) : seqStep q q = true := by
  cases q <;> rfl

/-- From every state the sequencer may go to `IDLE` (R97). -/
theorem seqStep_idle (q : Seq) : seqStep q .idle = true := by
  cases q <;> rfl

theorem executeSample_seq (s : State) :
    (executeSample s).seq = .idle ∨ (executeSample s).seq = .exWait := by
  rcases executeSample_cases s with ⟨_, _, h⟩ | ⟨_, _, h⟩ | ⟨_, _, h⟩ | ⟨_, _, h⟩ <;> simp [h]

theorem waitSample_seq (s : State) :
    (waitSample s).seq = .idle ∨ (waitSample s).seq = .wrWait := by
  rcases waitSample_cases s with ⟨_, h⟩ | ⟨_, _, h⟩ | ⟨_, _, h⟩ <;> simp [h, waitFinish_seq]

theorem executeIssue_seq (s : State) :
    (executeIssue s).seq = .idle ∨ (executeIssue s).seq = .exSettle := by
  rcases executeIssue_cases s with ⟨_, h⟩ | ⟨_, _, _, h⟩ | ⟨_, _, _, h⟩ <;> simp [h]

theorem waitIssue_seq (s : State) :
    (waitIssue s).seq = .idle ∨ (waitIssue s).seq = .wrWait := by
  rcases waitIssue_cases s with ⟨_, h⟩ | ⟨_, h⟩ <;> rw [h]
  · exact .inl rfl
  · exact waitSample_seq _

theorem getInfoIssue_seq (s : State) :
    (getInfoIssue s).seq = .idle ∨ (getInfoIssue s).seq = .giSettle := by
  rcases getInfoIssue_cases s with ⟨_, h⟩ | ⟨_, h⟩ <;> simp [h]

/-- To end and to sleep in `q` are both listed, if `q` is a state to sleep in from `p`. -/
theorem seqStep_of_idle_or {p q r : Seq} (hq : seqStep p q = true) (h : r = .idle ∨ r = q) :
    seqStep p r = true := by
  rcases h with rfl | rfl
  · exact seqStep_idle p
  · exact hq

theorem wake_seqStep (s : State) : seqStep s.seq (wake s).seq = true := by
  cases hq : s.seq
  case idle => rw [wake_of_idle hq, hq]; rfl
  case exSettle => rw [wake_of_exSettle hq]; exact seqStep_of_idle_or rfl (executeSample_seq _)
  case exWait => rw [wake_of_exWait hq]; exact seqStep_of_idle_or rfl (executeSample_seq _)
  case giSettle => rw [wake_of_giSettle hq]; exact seqStep_of_idle_or rfl (waitSample_seq _)
  case wrWait => rw [wake_of_wrWait hq]; exact seqStep_of_idle_or rfl (waitSample_seq _)

theorem InstrMoves.seqStep {i : Instr} {s t : State} (hm : InstrMoves i s t) :
    seqStep s.seq t.seq = true := by
  cases hm with
  | arrives bs => rw [State.arriveAll_eq]; exact seqStep_self s.seq
  | executes _ hs => rw [hs]; exact seqStep_of_idle_or rfl (executeIssue_seq _)
  | waits hs => rw [hs]; exact seqStep_of_idle_or rfl (waitIssue_seq _)
  | queries _ hs => rw [hs]; exact seqStep_of_idle_or rfl (getInfoIssue_seq _)
  | reserved => exact seqStep_idle s.seq
  | extracts => exact seqStep_idle s.seq
  | polls => exact seqStep_idle s.seq
  | names => exact seqStep_idle s.seq
  | controls => exact seqStep_idle s.seq

theorem StepMoves.seqStep {s t : State} (hm : StepMoves s t) : seqStep s.seq t.seq = true := by
  cases hm with
  | wakes es => exact wake_seqStep (s.withEvents es)
  | runs _ _ hi => exact hi.seqStep
  | writes es w hs => cases w <;> exact seqStep_self s.seq
  | resets => exact seqStep_idle s.seq
  | stays => exact seqStep_self s.seq
  | ticks => exact seqStep_self s.seq
  | arrives => exact seqStep_self s.seq

theorem step_of_reset {s : State} {rest : List Event} (he : s.events = .reset :: rest) :
    step s = .next (s.withEvents rest).assertReset := by
  simp only [step, he]

/-- Settles O45: every step is one of `StepMoves`, and each of these keeps to the table. -/
theorem sequencerMovesAsListed : Obligations.SequencerMovesAsListed := by
  intro s t h
  refine ⟨fun ⟨rest, he⟩ => ?_, fun _ => (stepMoves_of_step h).seqStep⟩
  cases (step_of_reset he).symm.trans h
  rfl

/-! ### The unbound block -/

/-- No transport action, nobody told, no time passed, and the block is idle (R95). -/
def Silent (s t : State) : Prop :=
  t.txlog = s.txlog ∧ t.rxq = s.rxq ∧ t.obslog = s.obslog ∧ t.seq = .idle ∧ t.now = s.now

theorem executeIssue_silent {s : State} (hb : s.bound = false) : Silent s (executeIssue s) := by
  rw [executeIssue_of_unbound hb]; exact ⟨rfl, rfl, rfl, rfl, rfl⟩

theorem waitIssue_silent {s : State} (hb : s.bound = false) : Silent s (waitIssue s) := by
  rw [waitIssue_of_unbound hb]; exact ⟨rfl, rfl, rfl, rfl, rfl⟩

theorem getInfoIssue_silent {s : State} (hb : s.bound = false) : Silent s (getInfoIssue s) := by
  rw [getInfoIssue_of_unbound hb]; exact ⟨rfl, rfl, rfl, rfl, rfl⟩

/-- Unbound, the scan result is empty (R95), and an empty one is told to nobody (R111). -/
theorem pollIssue_of_unbound {s : State} (hb : s.bound = false) :
    pollIssue s = (s.setScan []).complete := by
  simp [pollIssue, pollScan, pollNotify, hb, State.setScan]

theorem pollIssue_silent {s : State} (hb : s.bound = false) : Silent s (pollIssue s) := by
  rw [pollIssue_of_unbound hb]; exact ⟨rfl, rfl, rfl, rfl, rfl⟩

theorem silent_of_issue {code : OpCode} {seg : State → State} {s t : State}
    (h : issue code seg s = .next t) (hseg : Silent (s.setOpsel code) (seg (s.setOpsel code))) :
    Silent s t := by
  obtain ⟨_, rfl⟩ := issue_next_iff.1 h
  exact hseg

/-- Settles O46: the host's rows, by the segment each issues; the module's rows are none of them. -/
theorem unboundBlockIsSilent : Obligations.UnboundBlockIsSilent := by
  intro i s t hi hb h
  cases i with
  | execute | startDecode | stopDecode | setTriggerMode | setFillLightBrightness
  | startDecodeFrame | stopDecodeFrame =>
    exact silent_of_issue h (executeIssue_silent hb)
  | setTriggerModeFrame m =>
    exact silent_of_issue (seg := fun s => setTriggerModeIssue (s.setParam m)) h
      (executeIssue_silent hb)
  | setFillLightBrightnessFrame b =>
    exact silent_of_issue (seg := fun s => fillLightIssue (s.setParam b)) h
      (executeIssue_silent hb)
  | waitResponse => exact silent_of_issue h (waitIssue_silent hb)
  | getInfo | getFirmwareVersion | getSoftwareVersion | getInfosFrame =>
    exact silent_of_issue h (getInfoIssue_silent hb)
  | poll => exact silent_of_issue h (pollIssue_silent hb)
  | extractPayload =>
    exact silent_of_issue (seg := fun s => s.extractPayload.complete) h ⟨rfl, rfl, rfl, rfl, rfl⟩
  | resultName | setCtrl | reserved0 | reservedE | reservedF =>
    exact silent_of_issue h ⟨rfl, rfl, rfl, rfl, rfl⟩
  | stopDecodeAck | setTriggerModeAck | setFillLightBrightnessAck | responseEnvelope =>
    cases hi

end Sys2Proof.Machine
end

section
/-! PROOFS, family 40_engine: the deadlines (O51 to O54). A run of steps of the busy block
(`BusyRun`) is put together from sleeps (`BusyRun.of_sleep`) and, where an operation polls, from
sleeps between its samples (`BusyRun.of_polling`); a run that comes to `IDLE` is the end of the
operation (`endsIn_of_busyRun`). -/

namespace Sys2Proof.Machine

/-! ### Runs of the busy block -/

/-- One step of a block that is busy before it. -/
def BusyStep (s t : State) : Prop :=
  s.seq ≠ .idle ∧ step s = .next t

/-- Some steps, the block busy before each of them. -/
abbrev BusyRun : State → State → Prop :=
  Relation.ReflTransGen BusyStep

/-- A run begins with its first step. -/
theorem reaches_succ {s u t : State} {k : Nat} (h : step s = .next u) :
    reaches s (k + 1) t ↔ reaches u k t := by
  have hstep : Host.Core.step Sys2Proof.core s = .next u := h
  simp only [reaches, Host.Core.run, hstep]

theorem endsIn_one {s t : State} (h : step s = .next t) (ht : t.seq = .idle) : endsIn s 1 t :=
  ⟨(reaches_succ h).2 rfl, ht, Nat.one_pos, fun _ hpos hlt => absurd hlt (not_lt.2 hpos)⟩

/-- An operation that goes on busy after a step ends one step later. -/
theorem endsIn_succ {s u t : State} {k : Nat} (h : step s = .next u) (hu : u.seq ≠ .idle)
    (he : endsIn u k t) : endsIn s (k + 1) t := by
  obtain ⟨hr, ht, _, hbusy⟩ := he
  refine ⟨(reaches_succ h).2 hr, ht, Nat.succ_pos k, fun j hpos hlt => ?_⟩
  match j, hpos with
  | 1, _ => exact ⟨u, (reaches_succ h).2 rfl, hu⟩
  | j + 2, _ =>
    obtain ⟨v, hv, hvb⟩ := hbusy (j + 1) (Nat.succ_pos j) (by omega)
    exact ⟨v, (reaches_succ h).2 hv, hvb⟩

/-- A step into a busy run that comes to `IDLE` is an operation and its end. -/
theorem endsIn_of_busyRun {s u t : State} (h : step s = .next u) (hr : BusyRun u t)
    (ht : t.seq = .idle) : ∃ k, endsIn s k t := by
  induction hr using Relation.ReflTransGen.head_induction_on generalizing s with
  | refl => exact ⟨1, endsIn_one h ht⟩
  | head hstep _ ih =>
    obtain ⟨k, hk⟩ := ih hstep.2
    exact ⟨k + 1, endsIn_succ h hstep.1 hk⟩

theorem endsIn_of_busy {s t : State} (hs : s.seq ≠ .idle) (hr : BusyRun s t) (ht : t.seq = .idle) :
    ∃ k, endsIn s k t := by
  rcases hr.cases_head with rfl | ⟨u, hu, hut⟩
  · exact absurd ht hs
  · exact endsIn_of_busyRun hu.2 hut ht

/-! ### One sleep -/

/-- `n` ms later, with the actions `es` still to come and nothing else changed. -/
def State.later (s : State) (n : Nat) (es : List Event) : State :=
  { s with now := s.now + BitVec.ofNat 32 n, events := es }

@[simp] theorem State.later_now (s : State) (n : Nat) (es : List Event) :
    (s.later n es).now = s.now + BitVec.ofNat 32 n := rfl
@[simp] theorem State.later_rxq (s : State) (n : Nat) (es : List Event) :
    (s.later n es).rxq = s.rxq := rfl
@[simp] theorem State.later_timeout (s : State) (n : Nat) (es : List Event) :
    (s.later n es).timeout = s.timeout := rfl
@[simp] theorem State.later_ack (s : State) (n : Nat) (es : List Event) :
    (s.later n es).ack = s.ack := rfl
@[simp] theorem State.later_txlog (s : State) (n : Nat) (es : List Event) :
    (s.later n es).txlog = s.txlog := rfl

theorem State.later_zero (s : State) : s.later 0 s.events = s := by
  simp [State.later]

theorem State.later_later (s : State) (m n : Nat) (es es' : List Event) :
    (s.later m es').later n es = s.later (m + n) es := by
  simp only [State.later, BitVec.ofNat_add, BitVec.add_assoc]

theorem quiet_succ (n : Nat) : quiet (n + 1) = .tick :: quiet n := rfl

/-- The clock of a sleeping block does not come to its wrap within the sleep. -/
theorem State.elapsed_later_one {s : State} (es : List Event) (h : s.elapsed s.tMark < 100) :
    (s.later 1 es).elapsed s.tMark = s.elapsed s.tMark + 1 := by
  simp only [State.elapsed, State.later] at *
  bv_omega

/-- With only ticks to come a due wake is the next step, at a tick or with none left (R76). -/
theorem step_quiet_of_enabled {s : State} {m : Nat} (he : s.events = quiet m)
    (h : s.wakeEnabled = true) : step s = .next (wake s) := by
  cases m with
  | zero => exact step_nil_of_enabled he h
  | succ m => exact step_tick_of_enabled (rest := quiet m) he h

/-- A sleep with `n` ms to go runs to its wake, `n` ms later, if only ticks come (R14). -/
theorem BusyRun.of_sleep {s : State} {n m : Nat} (hs : s.seq ≠ .idle)
    (hn : s.elapsed s.tMark + n = dwellMs s.seq) (he : s.events = quiet (n + m)) :
    BusyRun s (wake (s.later n (quiet m))) := by
  induction n generalizing s with
  | zero =>
    rw [Nat.zero_add] at he
    rw [← he, State.later_zero]
    have hdue : s.wakeEnabled = true := s.wakeEnabled_iff.2 ⟨hs, hn.ge⟩
    exact .single ⟨hs, step_quiet_of_enabled he hdue⟩
  | succ n ih =>
    have hle := dwellMs_le s.seq
    have hwait : s.wakeEnabled = false :=
      s.wakeEnabled_eq_false_iff.2 (.inr (show s.elapsed s.tMark < dwellMs s.seq by omega))
    have htick : s.events = .tick :: quiet (n + m) := by rw [he, Nat.add_right_comm, quiet_succ]
    have hstep : step s = .next (s.later 1 (quiet (n + m))) := by
      rw [step_of_tick htick, clockTurn_of_not_enabled hwait]
      rfl
    have helapsed := State.elapsed_later_one (s := s) (quiet (n + m)) (by omega)
    have hrun := ih (s := s.later 1 (quiet (n + m))) hs
      (show (s.later 1 (quiet (n + m))).elapsed s.tMark + n = dwellMs s.seq by omega) rfl
    rw [State.later_later, Nat.add_comm 1 n] at hrun
    exact .head ⟨hs, hstep⟩ hrun

/-! ### Polling -/

/-- The state of an operation that has polled since `s`, `n` ms later: the sequencer and the mark of
its sleep may have changed too. -/
def State.polled (s : State) (q : Seq) (mark : Millis) (n : Nat) (es : List Event) : State :=
  { s.later n es with seq := q, tMark := mark }

@[simp] theorem State.polled_now (s : State) (q : Seq) (mark : Millis) (n : Nat)
    (es : List Event) : (s.polled q mark n es).now = s.now + BitVec.ofNat 32 n := rfl
@[simp] theorem State.polled_rxq (s : State) (q : Seq) (mark : Millis) (n : Nat)
    (es : List Event) : (s.polled q mark n es).rxq = s.rxq := rfl
@[simp] theorem State.polled_txlog (s : State) (q : Seq) (mark : Millis) (n : Nat)
    (es : List Event) : (s.polled q mark n es).txlog = s.txlog := rfl

/-- The time since a window that started at `s`. -/
theorem State.polled_elapsed {s : State} (q : Seq) (mark : Millis) {n : Nat} (es : List Event)
    (h : n < 2 ^ 32) : (s.polled q mark n es).elapsed s.now = n := by
  simp only [State.elapsed, State.polled, State.later]
  bv_omega

/-- The end of the next sleep in `q`, after a sample at `m` ms. -/
theorem State.polled_sleep_later (s : State) (p q : Seq) (mark : Millis) (m n : Nat)
    (es es' : List Event) : ((s.polled p mark m es').sleep q).later n es =
      s.polled q (s.now + BitVec.ofNat 32 m) (m + n) es := by
  simp only [State.polled, State.later, State.sleep, BitVec.ofNat_add, BitVec.add_assoc]

/-- A sample that sleeps comes to the next sample of the operation. -/
theorem BusyRun.of_sample_sleep {s : State} {q : Seq} {sample : State → State} {p : Seq}
    {mark : Millis} {m i : Nat} (hq : q ≠ .idle)
    (hwake : ∀ u : State, u.seq = q → wake u = sample u)
    (hsleep : ∀ es, sample (s.polled p mark m es) = (s.polled p mark m es).sleep q) :
    BusyRun (sample (s.polled p mark m (quiet (dwellMs q + i))))
      (sample (s.polled q (s.now + BitVec.ofNat 32 m) (m + dwellMs q) (quiet i))) := by
  have helapsed (u : State) : (u.sleep q).elapsed (u.sleep q).tMark + dwellMs q = dwellMs q := by
    rw [State.sleep_tMark, ← State.sleep_now u q, State.elapsed_now, Nat.zero_add]
  have hrun := BusyRun.of_sleep (s := (s.polled p mark m (quiet (dwellMs q + i))).sleep q)
    (n := dwellMs q) (m := i) hq (helapsed _) rfl
  rwa [State.polled_sleep_later, hwake _ rfl, ← hsleep] at hrun

/-- An operation whose first `n` samples each go back to sleep in `q` comes to the sample after
them, at the end of `n` sleeps, if only ticks come. -/
theorem BusyRun.of_polling {s : State} {q : Seq} {sample : State → State} {n : Nat}
    (hq : q ≠ .idle) (he : s.events = quiet (dwellMs q * n))
    (hwake : ∀ u : State, u.seq = q → wake u = sample u)
    (hsleep : ∀ j < n, ∀ p mark es, sample (s.polled p mark (dwellMs q * j) es) =
      (s.polled p mark (dwellMs q * j) es).sleep q) :
    ∃ p mark, BusyRun (sample s) (sample (s.polled p mark (dwellMs q * n) [])) := by
  suffices h : ∀ j i, j + i = n → ∃ p mark, BusyRun (sample s)
      (sample (s.polled p mark (dwellMs q * j) (quiet (dwellMs q * i)))) from h n 0 rfl
  intro j
  induction j with
  | zero =>
    intro i hi
    have hstart : s.polled s.seq s.tMark (dwellMs q * 0) (quiet (dwellMs q * i)) = s := by
      rw [show i = n by omega, ← he]
      exact s.later_zero
    exact ⟨s.seq, s.tMark, by rw [hstart]⟩
  | succ j ih =>
    intro i hi
    obtain ⟨p, mark, hrun⟩ := ih (i + 1) (by omega)
    have hticks : dwellMs q * (i + 1) = dwellMs q + dwellMs q * i := by ring
    rw [hticks] at hrun
    exact ⟨q, _, hrun.trans
      (BusyRun.of_sample_sleep hq hwake (hsleep j (by omega) p mark))⟩

/-! ### Execute -/

theorem executeSample_of_enough {s : State} (h : s.ack.length ≤ s.rxq.length) :
    executeSample s =
      { s with
        rxq := s.rxq.drop s.ack.length, compareLatch := s.rxq.take s.ack.length,
        result := if s.rxq.take s.ack.length = s.ack then .success else .ackMismatch,
        resultValid := true, seq := .idle } := by
  rw [executeSample_eq, if_pos h]

theorem executeSample_of_window_over {s : State} (h : s.rxq.length < s.ack.length)
    (ht : s.timeout.toNat ≤ s.elapsed s.tStart) : executeSample s = s.report .timeout := by
  rw [executeSample_eq, if_neg h.not_ge, if_pos ht]

theorem executeSample_of_window_open {s : State} (h : s.rxq.length < s.ack.length)
    (ht : s.elapsed s.tStart < s.timeout.toNat) : executeSample s = s.sleep .exWait := by
  rw [executeSample_eq, if_neg h.not_ge, if_neg ht.not_ge]

/-- From the start of its window an unanswered Execute comes to its timeout in as many sleeps of
5 ms as the window needs; their sum stays below the clock's wrap, since 2^32 - 1 is a multiple
of 5. -/
theorem unansweredExecute_run {s : State} {n : Nat} (hn : n = (s.timeout.toNat + 4) / 5)
    (hw : s.tStart = s.now) (hlen : s.rxq.length < s.ack.length) (he : s.events = quiet (5 * n)) :
    ∃ p mark, BusyRun (executeSample s) ((s.polled p mark (5 * n) []).report .timeout) := by
  have hlt := s.timeout.isLt
  have helapsed (p mark es) {j : Nat} (hj : j ≤ n) :
      (s.polled p mark (5 * j) es).elapsed s.tStart = 5 * j := by
    rw [hw, State.polled_elapsed p mark es (by omega)]
  obtain ⟨p, mark, hrun⟩ := BusyRun.of_polling (q := .exWait) (sample := executeSample) (n := n)
    (by decide) he (fun u hu => wake_of_exWait hu) fun j hj p mark es =>
      executeSample_of_window_open hlen
        (show (s.polled p mark (5 * j) es).elapsed s.tStart < s.timeout.toNat by
          rw [helapsed p mark es hj.le]; omega)
  refine ⟨p, mark, ?_⟩
  rwa [executeSample_of_window_over (s := s.polled p mark (dwellMs .exWait * n) []) hlen
    (show s.timeout.toNat ≤ (s.polled p mark (5 * n) []).elapsed s.tStart by
      rw [helapsed p mark [] le_rfl]; omega)] at hrun

/-- What is left of the settle delay runs to the first sample, in a window that starts there. -/
theorem settleDelay_run {s : State} {n m : Nat} (hq : s.seq = .exSettle)
    (hn : s.elapsed s.tMark + n = 100) (he : s.events = quiet (n + m)) :
    BusyRun s (executeSample (s.later n (quiet m)).startWindow) := by
  have hrun := BusyRun.of_sleep (by simp [hq]) (show _ = dwellMs s.seq by rw [hq]; exact hn) he
  rwa [wake_of_exSettle (s := s.later n (quiet m)) hq] at hrun

/-- Settles O51: the settle delay, then the unanswered samples. -/
theorem unansweredExecuteTimesOutOnTime : Obligations.UnansweredExecuteTimesOutOnTime := by
  intro s hq hmark hlen he
  obtain ⟨n, hn⟩ : ∃ n, n = (s.timeout.toNat + 4) / 5 := ⟨_, rfl⟩
  rw [← hn] at he ⊢
  have hdelay := settleDelay_run hq (by rw [hmark, State.elapsed_now]) he
  obtain ⟨p, mark, hpoll⟩ := unansweredExecute_run
    (s := (s.later 100 (quiet (5 * n))).startWindow) (by simpa using hn) rfl (by simpa using hlen)
    rfl
  obtain ⟨k, hk⟩ := endsIn_of_busy (by simp [hq]) (hdelay.trans hpoll) rfl
  refine ⟨k, _, hk, rfl, rfl, rfl, ?now, ?rxq, ?txlog⟩
  case now => simp [BitVec.ofNat_add, BitVec.add_assoc]
  case rxq => simp
  case txlog => simp

/-- Settles O52: what is left of the settle delay, then the one sample. -/
theorem answeredExecuteEndsAfterTheSettle : Obligations.AnsweredExecuteEndsAfterTheSettle := by
  intro s d hq hd hle hlen he
  have hrun := settleDelay_run (m := 0) hq
    (show (s.now - s.tMark).toNat + (100 - d) = 100 by omega) he
  rw [executeSample_of_enough (s := (s.later (100 - d) (quiet 0)).startWindow) hlen] at hrun
  obtain ⟨k, hk⟩ := endsIn_of_busy (by simp [hq]) hrun rfl
  refine ⟨k, _, hk, rfl, rfl, rfl, ?_, rfl⟩
  show s.now + BitVec.ofNat 32 (100 - d) = s.tMark + 100#32
  bv_omega

/-! ### WaitResponse -/

theorem waitSample_of_window_over {s : State} (h : s.rxq = [])
    (ht : s.waitTimeout ≤ s.elapsed s.tStart) : waitSample s = waitFinish s := by
  rw [waitSample_eq, if_neg (not_not.2 h), if_pos ht]

theorem waitSample_of_window_open {s : State} (h : s.rxq = [])
    (ht : s.elapsed s.tStart < s.waitTimeout) : waitSample s = s.sleep .wrWait := by
  rw [waitSample_eq, if_neg (not_not.2 h), if_neg ht.not_ge]

/-- From the start of its window an unanswered wait, whoever it is for, comes to its end in as many
sleeps of 20 ms as the window needs (R84, R85). -/
theorem unansweredWait_run {s : State} {n : Nat} (hn : n = (s.waitTimeout + 19) / 20)
    (hlt : 20 * n < 2 ^ 32) (hw : s.tStart = s.now) (hempty : s.rxq = [])
    (he : s.events = quiet (20 * n)) :
    ∃ p mark, BusyRun (waitSample s) (waitFinish (s.polled p mark (20 * n) [])) := by
  have helapsed (p mark es) {j : Nat} (hj : j ≤ n) :
      (s.polled p mark (20 * j) es).elapsed s.tStart = 20 * j := by
    rw [hw, State.polled_elapsed p mark es (by omega)]
  obtain ⟨p, mark, hrun⟩ := BusyRun.of_polling (q := .wrWait) (sample := waitSample) (n := n)
    (by decide) he (fun u hu => wake_of_wrWait hu) fun j hj p mark es =>
      waitSample_of_window_open hempty
        (show (s.polled p mark (20 * j) es).elapsed s.tStart < s.waitTimeout by
          rw [helapsed p mark es hj.le]; omega)
  refine ⟨p, mark, ?_⟩
  rwa [waitSample_of_window_over (s := s.polled p mark (dwellMs .wrWait * n) []) hempty
    (show s.waitTimeout ≤ (s.polled p mark (20 * n) []).elapsed s.tStart by
      rw [helapsed p mark [] le_rfl]; omega)] at hrun

/-- A step whose next action is the encoding of a well-formed instruction issues it. -/
theorem step_of_encoded {s : State} {i : Instr} {rest : List Event}
    (hi : wellFormed i = true) (he : s.events = .instr (encode i) :: rest) :
    step s = exec i (s.withEvents rest) :=
  (step_of_instr he).trans (runBytes_of_instr (encodedInstructionsDecodeBack i hi) _)

/-- The state in which the host's wait takes its first sample, in a window that starts now (R83). -/
def hostWaitBegun (s : State) (es : List Event) : State :=
  ((s.withEvents es).setOpsel 0x2#4).beginWait .host

theorem step_waitResponse_of_bound {s : State} {es : List Event} (hs : s.seq = .idle)
    (hb : s.bound = true) (he : s.events = .instr [0x02#8] :: es) :
    step s = .next (waitSample (hostWaitBegun s es)) := by
  have hissue := (step_of_encoded (i := .waitResponse) rfl he).trans (exec_waitResponse hs)
  rwa [waitIssue_of_bound (s := (s.withEvents es).setOpsel 0x2#4) hb] at hissue

/-- Settles O53: the issue, then the unanswered samples of the host's wait. -/
theorem unansweredWaitEndsOnTime : Obligations.UnansweredWaitEndsOnTime := by
  intro s hs hb hempty hlt he
  obtain ⟨n, hn⟩ : ∃ n, n = (s.timeout.toNat + 19) / 20 := ⟨_, rfl⟩
  rw [← hn] at hlt he ⊢
  obtain ⟨p, mark, hpoll⟩ := unansweredWait_run (s := hostWaitBegun s (quiet (20 * n)))
    hn hlt rfl hempty rfl
  obtain ⟨k, hk⟩ := endsIn_of_busyRun (step_waitResponse_of_bound hs hb he) hpoll rfl
  exact ⟨k, _, hk, rfl, rfl, hempty, rfl, rfl, rfl⟩

/-! ### GetInfo -/

/-- GetInfo's settle delay runs to its first sample, in a window that starts there. -/
theorem infoSettleDelay_run {s : State} {m : Nat} (hq : s.seq = .giSettle) (hmark : s.tMark = s.now)
    (he : s.events = quiet (10 + m)) :
    BusyRun s (waitSample ((s.later 10 (quiet m)).beginWait .getInfo)) := by
  have hrun := BusyRun.of_sleep (n := 10) (by simp [hq])
    (show _ = dwellMs s.seq by rw [hmark, State.elapsed_now, hq]; rfl) he
  rwa [wake_of_giSettle (s := s.later 10 (quiet m)) hq] at hrun

/-- The state in which GetInfo starts its settle delay, its query sent (R89). -/
def infoQuerySent (s : State) (es : List Event) : State :=
  (((s.withEvents es).setOpsel 0x4#4).rxDrain.txWrite (getInfosFrame s.param)).sleep .giSettle

theorem step_getInfo_of_bound {s : State} {es : List Event} (hs : s.seq = .idle)
    (hb : s.bound = true) (he : s.events = .instr [0x04#8] :: es) :
    step s = .next (infoQuerySent s es) := by
  have hissue := (step_of_encoded (i := .getInfo) rfl he).trans (exec_getInfo hs)
  rwa [getInfoIssue_of_bound (s := (s.withEvents es).setOpsel 0x4#4) hb] at hissue

/-- Settles O54: the issue, the settle delay of 10 ms, then 50 unanswered sleeps of 20 ms, which end
with the payload of the empty buffer. -/
theorem unansweredGetInfoEndsOnTime : Obligations.UnansweredGetInfoEndsOnTime := by
  intro s hs hb he
  have hdelay := infoSettleDelay_run (s := infoQuerySent s (quiet 1010)) (m := 1000) rfl rfl rfl
  obtain ⟨p, mark, hpoll⟩ := unansweredWait_run (n := 50)
    (s := ((infoQuerySent s (quiet 1010)).later 10 (quiet 1000)).beginWait .getInfo)
    (show 50 = (1000 + 19) / 20 by decide) (by decide) rfl rfl rfl
  obtain ⟨k, hk⟩ := endsIn_of_busyRun (step_getInfo_of_bound hs hb he) (hdelay.trans hpoll) rfl
  refine ⟨k, _, hk, rfl, rfl, rfl, rfl, rfl, ?_, rfl, rfl, rfl⟩
  show s.now + 10#32 + 1000#32 = s.now + 1010#32
  rw [BitVec.add_assoc]
  rfl

end Sys2Proof.Machine
end

section
/-! PROOFS, family 41_commands: the command table's host rows (O22, O23, O27 to O30). A row writes its
operands and issues `EXECUTE` or `GET_INFO`; what either segment then does stands with the frame rows
(`executeIssue_setOperands_ack` and its neighbours). -/

namespace Sys2Proof.Machine

/-! ### The info queries -/

theorem exec_getFirmwareVersion {s : State} (hs : s.seq = .idle) :
    exec .getFirmwareVersion s =
      .next (getInfoIssue ((s.setOpsel 0xC#4).setParam firmwareVersionId)) :=
  issue_idle (seg := getInfoOf firmwareVersionId) hs

theorem exec_getSoftwareVersion {s : State} (hs : s.seq = .idle) :
    exec .getSoftwareVersion s =
      .next (getInfoIssue ((s.setOpsel 0xD#4).setParam softwareVersionId)) :=
  issue_idle (seg := getInfoOf softwareVersionId) hs

/-- Settles O22: the query with the id `C1`, sent or, unbound, emptied. -/
theorem firmwareVersionQueriesC1 : Obligations.FirmwareVersionQueriesC1 := fun _ hs =>
  ⟨fun hb => (exec_getFirmwareVersion hs).trans
      (congrArg _ (getInfoIssue_query_bound hb 0xC#4 firmwareVersionId)),
    fun hb => (exec_getFirmwareVersion hs).trans
      (congrArg _ (getInfoIssue_query_unbound hs hb 0xC#4 firmwareVersionId))⟩

/-- Settles O23: the query with the id `C2`, sent or, unbound, emptied. -/
theorem softwareVersionQueriesC2 : Obligations.SoftwareVersionQueriesC2 := fun _ hs =>
  ⟨fun hb => (exec_getSoftwareVersion hs).trans
      (congrArg _ (getInfoIssue_query_bound hb 0xD#4 softwareVersionId)),
    fun hb => (exec_getSoftwareVersion hs).trans
      (congrArg _ (getInfoIssue_query_unbound hs hb 0xD#4 softwareVersionId))⟩

/-! ### What each command writes before its Execute -/

theorem exec_startDecode {s : State} (hs : s.seq = .idle) :
    exec .startDecode s =
      .next (executeIssue (s.setOperands 0x8#4 s.param startDecodeFrame [] 1000#32)) :=
  issue_idle (seg := startDecodeIssue) hs

theorem exec_stopDecode {s : State} (hs : s.seq = .idle) :
    exec .stopDecode s =
      .next (executeIssue (s.setOperands 0x9#4 s.param stopDecodeFrame stopDecodeAck 150#32)) :=
  issue_idle (seg := stopDecodeIssue) hs

theorem exec_setTriggerMode {s : State} (hs : s.seq = .idle) :
    exec .setTriggerMode s =
      .next (executeIssue (s.setOperands 0xA#4 s.param (setTriggerModeFrame s.param)
        (setTriggerModeAck s.param) 200#32)) :=
  issue_idle (seg := setTriggerModeIssue) hs

theorem exec_setFillLightBrightness {s : State} (hs : s.seq = .idle) :
    exec .setFillLightBrightness s =
      .next (executeIssue (s.setOperands 0xB#4 s.param (fillLightFrame (clampBrightness s.param))
        (fillLightAck (clampBrightness s.param)) 100#32)) :=
  issue_idle (seg := fillLightIssue) hs

/-! ### The brightness clamp -/

/-- A brightness above the range becomes its upper bound (R102). -/
theorem clampBrightness_of_gt {b : Byte} (h : 100 < b.toNat) : clampBrightness b = 100#8 := by
  have hint : clampBrightnessInt b.toNat = 100 := by
    unfold clampBrightnessInt Config.brightnessMax
    omega
  rw [clampBrightness, hint]
  rfl

theorem clampBrightness_eq (b : Byte) :
    clampBrightness b = if b.toNat ≤ 100 then b else 100#8 := by
  split
  case isTrue h => exact clampBrightness_of_le h
  case isFalse h => exact clampBrightness_of_gt (Nat.lt_of_not_le h)

/-! ### The commands' next states -/

/-- Settles O27: no ack is awaited, so the sending is the success; unbound, only the operands are
written and `INVALID_PARAM` reported. -/
theorem startDecodeNeverWaits : Obligations.StartDecodeNeverWaits := fun _ hs =>
  ⟨fun hb => (exec_startDecode hs).trans (congrArg _
      (executeIssue_setOperands_no_ack hs hb _ _ _ (List.cons_ne_nil _ _))),
    fun hb => (exec_startDecode hs).trans (congrArg _
      (executeIssue_setOperands_unbound hs hb _ _ _ _ _))⟩

/-- Settles O28: the frame and the ack are not empty, so the frame is sent and its ack awaited. -/
theorem stopDecodeSendsItsFrame : Obligations.StopDecodeSendsItsFrame := fun _ hs hb =>
  (exec_stopDecode hs).trans (congrArg _
    (executeIssue_setOperands_ack hb _ _ _ (List.cons_ne_nil _ _) (List.cons_ne_nil _ _)))

/-- Settles O29: the mode goes from `PARAM` into frame and ack as it is, so no case of it is
distinguished. -/
theorem setTriggerModeSendsEveryMode : Obligations.SetTriggerModeSendsEveryMode := fun _ hs hb =>
  (exec_setTriggerMode hs).trans (congrArg _
    (executeIssue_setOperands_ack hb _ _ _ (List.cons_ne_nil _ _) (List.cons_ne_nil _ _)))

/-- Settles O30: the byte framed is the clamped one (`clampBrightness_eq`), the operand written to
`PARAM` is `PARAM` itself. -/
theorem fillLightBrightnessIsClamped : Obligations.FillLightBrightnessIsClamped := by
  intro s b hs hb hclamp
  obtain rfl : b = clampBrightness s.param := hclamp.trans (clampBrightness_eq s.param).symm
  exact (exec_setFillLightBrightness hs).trans (congrArg _
    (executeIssue_setOperands_ack hb _ _ _ (List.cons_ne_nil _ _) (List.cons_ne_nil _ _)))

end Sys2Proof.Machine
end

section
/-! PROOFS, family 42_poller: Poll (O31), SetCtrl (O32), the gate of the host port (O36), and who
tells the observer (O41). -/

namespace Sys2Proof.Machine

/-! ### Poll -/

theorem exec_poll {s : State} (hs : s.seq = .idle) :
    exec .poll s = .next (pollIssue (s.setOpsel 0x5#4)) := issue_idle hs

theorem pollScan_of_waiting {s : State} (h : s.bound = true ∧ s.rxq ≠ []) :
    pollScan s = { s with rxq := [], respBuf := s.rxq, scanResult := s.rxq } := by
  obtain ⟨hb, hq⟩ := h
  rcases pollScan_cases s with ⟨_, _, hscan⟩ | ⟨hclosed, _⟩
  · rw [hscan, readBurst_eq, State.setScan]
  · simp [hb, hq] at hclosed

theorem pollScan_of_not_waiting {s : State} (h : ¬(s.bound = true ∧ s.rxq ≠ [])) :
    pollScan s = s.setScan [] := by
  rcases pollScan_cases s with ⟨hb, hq, _⟩ | ⟨_, hscan⟩
  · exact absurd ⟨hb, hq⟩ h
  · exact hscan

/-- A result with a byte in it is told if an observer is registered (R111). -/
theorem pollNotify_of_nonempty {s : State} (h : s.scanResult ≠ []) :
    pollNotify s =
      { s with obslog := if s.obsEn = true then s.obslog ++ [s.scanResult] else s.obslog } := by
  rcases pollNotify_cases s with ⟨ho, _, hn⟩ | ⟨hnone, hn⟩
  · rw [hn, if_pos ho, State.notify]
  · have ho : ¬s.obsEn = true := by simpa using hnone.resolve_right h
    rw [hn, if_neg ho]

/-- An empty result is told to nobody (R111). -/
theorem pollNotify_of_empty {s : State} (h : s.scanResult = []) : pollNotify s = s := by
  rcases pollNotify_cases s with ⟨_, hr, _⟩ | ⟨_, hn⟩
  · exact absurd h hr
  · exact hn

/-- Bound and with bytes waiting: the queue is taken and, where somebody listens, told. -/
theorem pollIssue_of_waiting {s : State} (h : s.bound = true ∧ s.rxq ≠ []) :
    pollIssue s = State.complete
      { s with
        rxq := [], respBuf := s.rxq, scanResult := s.rxq,
        obslog := if s.obsEn = true then s.obslog ++ [s.rxq] else s.obslog } := by
  rw [pollIssue, pollScan_of_waiting h, pollNotify_of_nonempty h.2]

theorem pollIssue_of_not_waiting {s : State} (h : ¬(s.bound = true ∧ s.rxq ≠ [])) :
    pollIssue s = (s.setScan []).complete := by
  rw [pollIssue, pollScan_of_not_waiting h, pollNotify_of_empty (s.setScan_scanResult [])]

/-- Settles O31: by whether the gate of R107 passes. -/
theorem pollTakesTheWholeQueue : Obligations.PollTakesTheWholeQueue := by
  intro s hs
  rw [exec_poll hs]
  split
  case isTrue h =>
    rw [pollIssue_of_waiting (s := s.setOpsel 0x5#4) h]
    exact congrArg _ (State.complete_of_idle hs)
  case isFalse h =>
    rw [pollIssue_of_not_waiting (s := s.setOpsel 0x5#4) h]
    exact congrArg _ (State.complete_of_idle hs)

/-! ### SetCtrl -/

theorem exec_setCtrl {s : State} (hs : s.seq = .idle) :
    exec .setCtrl s = .next (setCtrlIssue (s.setOpsel 0x7#4)) := issue_idle hs

theorem setCtrlIssue_of_idle {s : State} (hs : s.seq = .idle) :
    setCtrlIssue s = s.setCtrlBits (s.param.getLsbD 0) (s.param.getLsbD 1) :=
  State.complete_of_idle (s := s.setCtrlBits _ _) hs

/-- Settles O32: bits 0 and 1 of a byte are these parities of its number. -/
theorem setCtrlCopiesTwoBits : Obligations.SetCtrlCopiesTwoBits := by
  intro s hs
  have hbit0 : s.param.getLsbD 0 = decide (s.param.toNat % 2 = 1) :=
    Nat.testBit_zero s.param.toNat
  have hbit1 : s.param.getLsbD 1 = decide (s.param.toNat / 2 % 2 = 1) :=
    Nat.testBit_eq_decide_div_mod_eq
  rw [exec_setCtrl hs, setCtrlIssue_of_idle (s := s.setOpsel 0x7#4) hs, ← hbit0, ← hbit1]
  rfl

/-! ### The gate of the host port -/

/-- Every row of the host's is the issue of some segment (R67; log entry 5). -/
theorem exec_eq_issue_of_isHost {i : Instr} (hi : i.isHost = true) :
    ∃ code seg, ∀ s, exec i s = issue code seg s := by
  cases i with
  | stopDecodeAck | setTriggerModeAck | setFillLightBrightnessAck | responseEnvelope => cases hi
  | extractPayload => exact ⟨_, fun s => s.extractPayload.complete, fun _ => rfl⟩
  | setTriggerModeFrame m => exact ⟨_, fun s => setTriggerModeIssue (s.setParam m), fun _ => rfl⟩
  | setFillLightBrightnessFrame b =>
    exact ⟨_, fun s => fillLightIssue (s.setParam b), fun _ => rfl⟩
  | _ => exact ⟨_, _, fun _ => rfl⟩

theorem hostWrite_busy {w : HostWrite} {s : State} (h : s.seq ≠ .idle) :
    hostWrite w s = .refused .hostWriteWhileBusy := if_neg h

/-- A register can be read exactly where the port is open to it (R33, R114). -/
theorem hostRead_ne_none_iff {s : State} {r : HostReg} :
    s.hostRead r ≠ none ↔ s.seq = .idle ∨ r = .status := by
  by_cases h : s.seq = .idle ∨ r = .status
  · simp [hostRead_of_open h, h]
  · simp [hostRead_of_closed h, h]

/-- Settles O36: operations by the one gate of `issue`, operand writes and reads by their own. -/
theorem hostPortIsOpenOnlyWhenIdle : Obligations.HostPortIsOpenOnlyWhenIdle := by
  intro s
  refine ⟨fun hb => ⟨fun i hi => ?_, fun w => hostWrite_busy hb, fun r => ?_⟩,
    fun hs => ⟨fun i hi => ?_, fun w => ⟨_, hostWrite_next_iff.2 ⟨hs, rfl⟩⟩,
      fun r => hostRead_ne_none_iff.2 (.inl hs)⟩⟩
  · obtain ⟨code, seg, hexec⟩ := exec_eq_issue_of_isHost hi
    exact (hexec s).trans (issue_busy hb)
  · exact hostRead_ne_none_iff.trans (or_iff_right hb)
  · obtain ⟨code, seg, hexec⟩ := exec_eq_issue_of_isHost hi
    exact ⟨_, (hexec s).trans (issue_idle hs)⟩

/-! ### Who tells the observer -/

/-- Nobody has been told, and `SCAN_RESULT` is as it was. -/
def SameScan (s t : State) : Prop :=
  t.obslog = s.obslog ∧ t.scanResult = s.scanResult

theorem executeIssue_scan (s : State) : SameScan s (executeIssue s) := by
  obtain ⟨_, _, _, _, _, _, h⟩ := executeIssue_writes s
  rw [h]; exact ⟨rfl, rfl⟩

theorem waitIssue_scan (s : State) : SameScan s (waitIssue s) := by
  obtain ⟨_, _, _, _, _, _, _, _, h⟩ := waitIssue_writes s
  rw [h]; exact ⟨rfl, rfl⟩

theorem getInfoIssue_scan (s : State) : SameScan s (getInfoIssue s) := by
  obtain ⟨_, _, _, _, _, _, _, h⟩ := getInfoIssue_writes s
  rw [h]; exact ⟨rfl, rfl⟩

theorem arriveAll_scan (s : State) (bs : Bytes) : SameScan s (s.arriveAll bs) := by
  rw [State.arriveAll_eq]; exact ⟨rfl, rfl⟩

theorem sameScan_of_issue {code : OpCode} {seg : State → State} {s t : State}
    (h : issue code seg s = .next t)
    (hseg : SameScan (s.setOpsel code) (seg (s.setOpsel code))) : SameScan s t := by
  obtain ⟨_, rfl⟩ := issue_next_iff.1 h
  exact hseg

/-- Every row but `POLL`, by the segment it issues or as an arrival (R111). -/
theorem sameScan_of_exec {i : Instr} {s t : State} (hi : i ≠ .poll) (h : exec i s = .next t) :
    SameScan s t := by
  cases i with
  | poll => exact absurd rfl hi
  | execute | startDecode | stopDecode | setTriggerMode | setFillLightBrightness
  | startDecodeFrame | stopDecodeFrame =>
    exact sameScan_of_issue h (executeIssue_scan _)
  | setTriggerModeFrame m =>
    exact sameScan_of_issue (seg := fun s => setTriggerModeIssue (s.setParam m)) h
      (executeIssue_scan _)
  | setFillLightBrightnessFrame b =>
    exact sameScan_of_issue (seg := fun s => fillLightIssue (s.setParam b)) h
      (executeIssue_scan _)
  | waitResponse => exact sameScan_of_issue h (waitIssue_scan _)
  | getInfo | getFirmwareVersion | getSoftwareVersion | getInfosFrame =>
    exact sameScan_of_issue h (getInfoIssue_scan _)
  | extractPayload =>
    exact sameScan_of_issue (seg := fun s => s.extractPayload.complete) h ⟨rfl, rfl⟩
  | resultName | setCtrl | reserved0 | reservedE | reservedF =>
    exact sameScan_of_issue h ⟨rfl, rfl⟩
  | stopDecodeAck | setTriggerModeAck | setFillLightBrightnessAck | responseEnvelope =>
    cases h; exact arriveAll_scan s _

/-- A step that does not run `POLL` leaves both, or is the reset input, which leaves the history of
notifications (R28, R35, R111; log entry 10). -/
theorem sameScan_or_reset_of_step {s t : State} (h : step s = .next t)
    (hn : ∀ bs rest, s.events = .instr bs :: rest → decode bs ≠ .instr .poll) :
    SameScan s t ∨ ((∃ rest, s.events = .reset :: rest) ∧ t.obslog = s.obslog) := by
  cases stepMoves_of_step h with
  | wakes es =>
    have hf := wake_frame (s.withEvents es)
    exact .inl ⟨hf.obslog, hf.scanResult⟩
  | @runs bs es i _ he hd =>
    rw [step_of_instr he, runBytes_of_instr hd] at h
    refine .inl (sameScan_of_exec (s := s.withEvents es) ?_ h)
    rintro rfl
    exact hn _ _ he hd
  | writes es w => cases w <;> exact .inl ⟨rfl, rfl⟩
  | resets es he => exact .inr ⟨⟨es, he⟩, rfl⟩
  | stays => exact .inl ⟨rfl, rfl⟩
  | ticks => exact .inl ⟨rfl, rfl⟩
  | arrives => exact .inl ⟨rfl, rfl⟩

/-- Settles O41: the reset input is the one step without a `POLL` that writes `SCAN_RESULT`. -/
theorem onlyPollTellsTheObserver : Obligations.OnlyPollTellsTheObserver := by
  intro s t h hn
  rcases sameScan_or_reset_of_step h hn with ⟨ho, hr⟩ | ⟨⟨rest, he⟩, ho⟩
  · exact ⟨ho, fun _ => hr⟩
  · exact ⟨ho, fun hne => absurd he (hne rest)⟩

end Sys2Proof.Machine
end

section
/-! PROOFS, family 60_exceptions: what `INVALID_PARAM` leaves as it was (O13). -/

namespace Sys2Proof.Machine

/-- Either failed precondition reports at once, before any transport action (R75, R122). -/
theorem executeIssue_of_precondition_failed {s : State} (h : s.bound = false ∨ s.frame = []) :
    executeIssue s = s.report .invalidParam := if_pos h

theorem exec_execute_of_precondition_failed {s : State} (hs : s.seq = .idle)
    (h : s.bound = false ∨ s.frame = []) :
    exec .execute s =
      .next { s with opsel := 0x1#4, result := .invalidParam, resultValid := true } := by
  rw [exec_execute hs, executeIssue_of_precondition_failed (s := s.setOpsel 0x1#4) h]
  exact congrArg _ (State.report_of_idle (s := s.setOpsel 0x1#4) hs .invalidParam)

/-- Settles O13: a command-table operation is an Execute with its operands written
(`executeIssue_setOperands_unbound`), and StartDecode's clause is the unbound half of O27. -/
theorem invalidParamLeavesAllButResult : Obligations.InvalidParamLeavesAllButResult := by
  intro s hs
  refine ⟨exec_execute_of_precondition_failed hs,
    fun hb => ⟨(startDecodeNeverWaits s hs).2 hb, ?stop, ?trigger, ?light⟩⟩
  case stop =>
    exact (exec_stopDecode hs).trans (congrArg _
      (executeIssue_setOperands_unbound hs hb _ _ _ _ _))
  case trigger =>
    exact (exec_setTriggerMode hs).trans (congrArg _
      (executeIssue_setOperands_unbound hs hb _ _ _ _ _))
  case light =>
    rw [← clampBrightness_eq]
    exact (exec_setFillLightBrightness hs).trans (congrArg _
      (executeIssue_setOperands_unbound hs hb _ _ _ _ _))

end Sys2Proof.Machine
end

section
/-! PROOFS, family 70_reset_and_hazards: the block at rest (O6) and the reset input (O10). -/

namespace Sys2Proof.Machine

/-! ### The block at rest -/

theorem wakeIfDue_of_not_enabled {s : State} (h : s.wakeEnabled = false) : wakeIfDue s = s := by
  simp [wakeIfDue, h]

/-- Settles O6: both clauses run `wakeIfDue`, and the hypothesis is that no wake is enabled. -/
theorem nothingRunsByItself : Obligations.NothingRunsByItself := by
  intro s hn
  have hw : s.wakeEnabled = false := s.wakeEnabled_eq_false_iff.2 hn
  constructor
  · intro he
    rw [step_of_nil he, wakeIfDue_of_not_enabled hw]
  · intro rest he
    rw [step_of_wake he, wakeIfDue_of_not_enabled (s := s.withEvents rest) hw]
    rfl

/-! ### The reset input -/

/-- Settles O10: the block's values are those of the reset state (`resetLeavesTheStatedValues`), the
rest is kept. -/
theorem resetInputStopsTheOperation : Obligations.ResetInputStopsTheOperation := by
  intro s rest he
  obtain ⟨hseq, hctx, hbound, hobsEn, hvalid, hresp, hscan, hsize, hpay, hframe, hack, htimeout,
    hparam, hopsel, hname, -, -, -⟩ := resetLeavesTheStatedValues
  exact ⟨_, step_of_reset he, hseq, hctx, hbound, hobsEn, hvalid, hresp, hscan, hsize, hpay, hframe,
    hack, htimeout, hparam, hopsel, hname, rfl, rfl, rfl, rfl, rfl⟩

end Sys2Proof.Machine
end
